-- ==== Sys2Proof/Word.lean ====
section
/-! DEFINITION. The word types of the glm-software core (00_scope.md R8, R9). -/

namespace Sys2Proof

/-- A byte: every memory cell, operand byte and the registers PB, DB and P (R8). -/
abbrev Byte := BitVec 8

/-- A 16-bit word: A, X, Y, SP and PC (R8). -/
abbrev Word := BitVec 16

/-- A 24-bit address, bank in bits 23:16 and offset in bits 15:0 (R60). -/
abbrev Addr := BitVec 24

/-- One pixel of the framebuffer: a red, a green and a blue byte (R48). -/
structure Rgb where
  red : Byte
  green : Byte
  blue : Byte
deriving DecidableEq, Repr, Inhabited

end Sys2Proof
end

