-- ==== Sys2Proof/Syntax.lean ====
section
/-! DEFINITION. The instructions: one constructor for each of the 256 rows of spec/opcode_table.json. -/

namespace Sys2Proof

/-- The instruction set (R104, R105): seven registered opcodes with their operands, and one constructor for each of
the 249 opcode bytes that run the default handler (R171), `defaultNN` standing for the byte 0xNN. -/
inductive Instr where
  /-- NOP, 0xEA (R140). -/
  | nop
  /-- CLC, 0x18 (R141). -/
  | clc
  /-- SEC, 0x38 (R142). -/
  | sec
  /-- LDA #, 0xA9 and the operand byte (R150). -/
  | ldaImm (imm8 : Byte)
  /-- LDX #, 0xA2 and the operand byte (R152). -/
  | ldxImm (imm8 : Byte)
  /-- LDY #, 0xA0 and the operand byte (R154). -/
  | ldyImm (imm8 : Byte)
  /-- JMP abs, 0x4C and the two operand bytes, low first (R160). -/
  | jmpAbs (addr16 : Word)
  | default00 | default01 | default02 | default03 | default04 | default05 | default06 | default07 | default08 | default09 | default0A | default0B | default0C | default0D | default0E | default0F
  | default10 | default11 | default12 | default13 | default14 | default15 | default16 | default17 | default19 | default1A | default1B | default1C | default1D | default1E | default1F
  | default20 | default21 | default22 | default23 | default24 | default25 | default26 | default27 | default28 | default29 | default2A | default2B | default2C | default2D | default2E | default2F
  | default30 | default31 | default32 | default33 | default34 | default35 | default36 | default37 | default39 | default3A | default3B | default3C | default3D | default3E | default3F
  | default40 | default41 | default42 | default43 | default44 | default45 | default46 | default47 | default48 | default49 | default4A | default4B | default4D | default4E | default4F
  | default50 | default51 | default52 | default53 | default54 | default55 | default56 | default57 | default58 | default59 | default5A | default5B | default5C | default5D | default5E | default5F
  | default60 | default61 | default62 | default63 | default64 | default65 | default66 | default67 | default68 | default69 | default6A | default6B | default6C | default6D | default6E | default6F
  | default70 | default71 | default72 | default73 | default74 | default75 | default76 | default77 | default78 | default79 | default7A | default7B | default7C | default7D | default7E | default7F
  | default80 | default81 | default82 | default83 | default84 | default85 | default86 | default87 | default88 | default89 | default8A | default8B | default8C | default8D | default8E | default8F
  | default90 | default91 | default92 | default93 | default94 | default95 | default96 | default97 | default98 | default99 | default9A | default9B | default9C | default9D | default9E | default9F
  | defaultA1 | defaultA3 | defaultA4 | defaultA5 | defaultA6 | defaultA7 | defaultA8 | defaultAA | defaultAB | defaultAC | defaultAD | defaultAE | defaultAF
  | defaultB0 | defaultB1 | defaultB2 | defaultB3 | defaultB4 | defaultB5 | defaultB6 | defaultB7 | defaultB8 | defaultB9 | defaultBA | defaultBB | defaultBC | defaultBD | defaultBE | defaultBF
  | defaultC0 | defaultC1 | defaultC2 | defaultC3 | defaultC4 | defaultC5 | defaultC6 | defaultC7 | defaultC8 | defaultC9 | defaultCA | defaultCB | defaultCC | defaultCD | defaultCE | defaultCF
  | defaultD0 | defaultD1 | defaultD2 | defaultD3 | defaultD4 | defaultD5 | defaultD6 | defaultD7 | defaultD8 | defaultD9 | defaultDA | defaultDB | defaultDC | defaultDD | defaultDE | defaultDF
  | defaultE0 | defaultE1 | defaultE2 | defaultE3 | defaultE4 | defaultE5 | defaultE6 | defaultE7 | defaultE8 | defaultE9 | defaultEB | defaultEC | defaultED | defaultEE | defaultEF
  | defaultF0 | defaultF1 | defaultF2 | defaultF3 | defaultF4 | defaultF5 | defaultF6 | defaultF7 | defaultF8 | defaultF9 | defaultFA | defaultFB | defaultFC | defaultFD | defaultFE | defaultFF
deriving DecidableEq, Repr

end Sys2Proof
end

