-- ==== Sys2Proof/WellFormed.lean ====
section
/-! DEFINITION. Well-formedness of what a program is written in. An `Instr` needs no check: its operands are a byte
and a 16-bit word by their types, and every value of them is legal (R102, R103, R107). The assembler's lines (R109)
carry plain numbers, and their ranges are checked here. -/

namespace Sys2Proof

/-- A line of the assembler syntax (R109, R110), its numbers as they are written. -/
inductive AsmLine where
  | nop
  | clc
  | sec
  | lda (imm8 : Nat)
  | ldx (imm8 : Nat)
  | ldy (imm8 : Nat)
  | jmp (addr16 : Nat)
  | byte (b : Nat)
deriving DecidableEq, Repr

/-- The ranges of R109: an immediate is 0x00..0xFF, a jump's operand 0x0000..0xFFFF, a .byte any byte. -/
def AsmLine.wf : AsmLine → Bool
  | .nop | .clc | .sec => true
  | .lda v | .ldx v | .ldy v => v ≤ 0xFF
  | .jmp a => a ≤ 0xFFFF
  | .byte b => b ≤ 0xFF

/-- Every line of a program is well formed. -/
def AsmLine.programWf (lines : List AsmLine) : Bool :=
  lines.all AsmLine.wf

end Sys2Proof
end

