-- ==== Sys2Proof/Decode.lean ====
section
/-! DEFINITION. The decoder, written from the opcode map of R105 and the formats of R100, and after it the encoder
and the assembler of R109. -/

namespace Sys2Proof

/-- An entry of the opcode map: the format of R100 an opcode byte selects, and the instruction it makes of the
operand bytes. -/
inductive OpcodeEntry where
  /-- Format DEF: one byte, the default handler. -/
  | dflt (i : Instr)
  /-- Format IMP: one byte. -/
  | imp (i : Instr)
  /-- Format IMM8: the opcode and one operand byte. -/
  | imm8 (mk : Byte → Instr)
  /-- Format ABS16: the opcode and two operand bytes, low first. -/
  | abs16 (mk : Word → Instr)

/-- Row 0x of the opcode map (R105). -/
def opcodeRow0 : List OpcodeEntry :=
  [.dflt .default00, .dflt .default01, .dflt .default02, .dflt .default03,
   .dflt .default04, .dflt .default05, .dflt .default06, .dflt .default07,
   .dflt .default08, .dflt .default09, .dflt .default0A, .dflt .default0B,
   .dflt .default0C, .dflt .default0D, .dflt .default0E, .dflt .default0F]

/-- Row 1x of the opcode map (R105). -/
def opcodeRow1 : List OpcodeEntry :=
  [.dflt .default10, .dflt .default11, .dflt .default12, .dflt .default13,
   .dflt .default14, .dflt .default15, .dflt .default16, .dflt .default17,
   .imp .clc, .dflt .default19, .dflt .default1A, .dflt .default1B,
   .dflt .default1C, .dflt .default1D, .dflt .default1E, .dflt .default1F]

/-- Row 2x of the opcode map (R105). -/
def opcodeRow2 : List OpcodeEntry :=
  [.dflt .default20, .dflt .default21, .dflt .default22, .dflt .default23,
   .dflt .default24, .dflt .default25, .dflt .default26, .dflt .default27,
   .dflt .default28, .dflt .default29, .dflt .default2A, .dflt .default2B,
   .dflt .default2C, .dflt .default2D, .dflt .default2E, .dflt .default2F]

/-- Row 3x of the opcode map (R105). -/
def opcodeRow3 : List OpcodeEntry :=
  [.dflt .default30, .dflt .default31, .dflt .default32, .dflt .default33,
   .dflt .default34, .dflt .default35, .dflt .default36, .dflt .default37,
   .imp .sec, .dflt .default39, .dflt .default3A, .dflt .default3B,
   .dflt .default3C, .dflt .default3D, .dflt .default3E, .dflt .default3F]

/-- Row 4x of the opcode map (R105). -/
def opcodeRow4 : List OpcodeEntry :=
  [.dflt .default40, .dflt .default41, .dflt .default42, .dflt .default43,
   .dflt .default44, .dflt .default45, .dflt .default46, .dflt .default47,
   .dflt .default48, .dflt .default49, .dflt .default4A, .dflt .default4B,
   .abs16 .jmpAbs, .dflt .default4D, .dflt .default4E, .dflt .default4F]

/-- Row 5x of the opcode map (R105). -/
def opcodeRow5 : List OpcodeEntry :=
  [.dflt .default50, .dflt .default51, .dflt .default52, .dflt .default53,
   .dflt .default54, .dflt .default55, .dflt .default56, .dflt .default57,
   .dflt .default58, .dflt .default59, .dflt .default5A, .dflt .default5B,
   .dflt .default5C, .dflt .default5D, .dflt .default5E, .dflt .default5F]

/-- Row 6x of the opcode map (R105). -/
def opcodeRow6 : List OpcodeEntry :=
  [.dflt .default60, .dflt .default61, .dflt .default62, .dflt .default63,
   .dflt .default64, .dflt .default65, .dflt .default66, .dflt .default67,
   .dflt .default68, .dflt .default69, .dflt .default6A, .dflt .default6B,
   .dflt .default6C, .dflt .default6D, .dflt .default6E, .dflt .default6F]

/-- Row 7x of the opcode map (R105). -/
def opcodeRow7 : List OpcodeEntry :=
  [.dflt .default70, .dflt .default71, .dflt .default72, .dflt .default73,
   .dflt .default74, .dflt .default75, .dflt .default76, .dflt .default77,
   .dflt .default78, .dflt .default79, .dflt .default7A, .dflt .default7B,
   .dflt .default7C, .dflt .default7D, .dflt .default7E, .dflt .default7F]

/-- Row 8x of the opcode map (R105). -/
def opcodeRow8 : List OpcodeEntry :=
  [.dflt .default80, .dflt .default81, .dflt .default82, .dflt .default83,
   .dflt .default84, .dflt .default85, .dflt .default86, .dflt .default87,
   .dflt .default88, .dflt .default89, .dflt .default8A, .dflt .default8B,
   .dflt .default8C, .dflt .default8D, .dflt .default8E, .dflt .default8F]

/-- Row 9x of the opcode map (R105). -/
def opcodeRow9 : List OpcodeEntry :=
  [.dflt .default90, .dflt .default91, .dflt .default92, .dflt .default93,
   .dflt .default94, .dflt .default95, .dflt .default96, .dflt .default97,
   .dflt .default98, .dflt .default99, .dflt .default9A, .dflt .default9B,
   .dflt .default9C, .dflt .default9D, .dflt .default9E, .dflt .default9F]

/-- Row Ax of the opcode map (R105). -/
def opcodeRowA : List OpcodeEntry :=
  [.imm8 .ldyImm, .dflt .defaultA1, .imm8 .ldxImm, .dflt .defaultA3,
   .dflt .defaultA4, .dflt .defaultA5, .dflt .defaultA6, .dflt .defaultA7,
   .dflt .defaultA8, .imm8 .ldaImm, .dflt .defaultAA, .dflt .defaultAB,
   .dflt .defaultAC, .dflt .defaultAD, .dflt .defaultAE, .dflt .defaultAF]

/-- Row Bx of the opcode map (R105). -/
def opcodeRowB : List OpcodeEntry :=
  [.dflt .defaultB0, .dflt .defaultB1, .dflt .defaultB2, .dflt .defaultB3,
   .dflt .defaultB4, .dflt .defaultB5, .dflt .defaultB6, .dflt .defaultB7,
   .dflt .defaultB8, .dflt .defaultB9, .dflt .defaultBA, .dflt .defaultBB,
   .dflt .defaultBC, .dflt .defaultBD, .dflt .defaultBE, .dflt .defaultBF]

/-- Row Cx of the opcode map (R105). -/
def opcodeRowC : List OpcodeEntry :=
  [.dflt .defaultC0, .dflt .defaultC1, .dflt .defaultC2, .dflt .defaultC3,
   .dflt .defaultC4, .dflt .defaultC5, .dflt .defaultC6, .dflt .defaultC7,
   .dflt .defaultC8, .dflt .defaultC9, .dflt .defaultCA, .dflt .defaultCB,
   .dflt .defaultCC, .dflt .defaultCD, .dflt .defaultCE, .dflt .defaultCF]

/-- Row Dx of the opcode map (R105). -/
def opcodeRowD : List OpcodeEntry :=
  [.dflt .defaultD0, .dflt .defaultD1, .dflt .defaultD2, .dflt .defaultD3,
   .dflt .defaultD4, .dflt .defaultD5, .dflt .defaultD6, .dflt .defaultD7,
   .dflt .defaultD8, .dflt .defaultD9, .dflt .defaultDA, .dflt .defaultDB,
   .dflt .defaultDC, .dflt .defaultDD, .dflt .defaultDE, .dflt .defaultDF]

/-- Row Ex of the opcode map (R105). -/
def opcodeRowE : List OpcodeEntry :=
  [.dflt .defaultE0, .dflt .defaultE1, .dflt .defaultE2, .dflt .defaultE3,
   .dflt .defaultE4, .dflt .defaultE5, .dflt .defaultE6, .dflt .defaultE7,
   .dflt .defaultE8, .dflt .defaultE9, .imp .nop, .dflt .defaultEB,
   .dflt .defaultEC, .dflt .defaultED, .dflt .defaultEE, .dflt .defaultEF]

/-- Row Fx of the opcode map (R105). -/
def opcodeRowF : List OpcodeEntry :=
  [.dflt .defaultF0, .dflt .defaultF1, .dflt .defaultF2, .dflt .defaultF3,
   .dflt .defaultF4, .dflt .defaultF5, .dflt .defaultF6, .dflt .defaultF7,
   .dflt .defaultF8, .dflt .defaultF9, .dflt .defaultFA, .dflt .defaultFB,
   .dflt .defaultFC, .dflt .defaultFD, .dflt .defaultFE, .dflt .defaultFF]

/-- The full opcode map (R105): entry k is the entry of opcode byte k. -/
def opcodeMap : List OpcodeEntry :=
  opcodeRow0 ++ opcodeRow1 ++ opcodeRow2 ++ opcodeRow3 ++ opcodeRow4 ++ opcodeRow5 ++ opcodeRow6 ++ opcodeRow7 ++
    opcodeRow8 ++ opcodeRow9 ++ opcodeRowA ++ opcodeRowB ++ opcodeRowC ++ opcodeRowD ++ opcodeRowE ++ opcodeRowF

/-- The map has an entry for each of the 256 opcode bytes (R101). -/
theorem opcodeMap_length : opcodeMap.length = 256 := by
  simp only [opcodeMap, List.length_append]
  rfl

/-- The entry an opcode byte selects: the whole byte is the key (R101). -/
def entryOf (op : Byte) : OpcodeEntry :=
  opcodeMap[op.toNat]'(opcodeMap_length ▸ op.isLt)

/-- The length in bytes of an entry's format (R100). -/
def OpcodeEntry.length : OpcodeEntry → Nat
  | .dflt _ => 1
  | .imp _ => 1
  | .imm8 _ => 2
  | .abs16 _ => 3

/-- The length of an instruction, told from its opcode byte alone (R106). -/
def instrLength (op : Byte) : Nat :=
  (entryOf op).length

/-- Two bytes as a 16-bit word, the low byte first (R72, R103). -/
def joinBytes (lo hi : Byte) : Word :=
  hi ++ lo

/-- The instruction of a byte stream, `byteAt k` being the k-th byte from the opcode on. Total: every opcode byte has
an entry (R107). -/
def decodeFrom (byteAt : Nat → Byte) : Instr :=
  match entryOf (byteAt 0) with
  | .dflt i => i
  | .imp i => i
  | .imm8 mk => mk (byteAt 1)
  | .abs16 mk => mk (joinBytes (byteAt 1) (byteAt 2))

/-- Why a list of bytes does not begin with an instruction. -/
inductive DecodeError where
  /-- There is no opcode byte. -/
  | noOpcode
  /-- The list ends before the operand bytes the opcode takes. -/
  | truncated (opcode : Byte)
deriving DecidableEq, Repr

/-- Decode the first instruction of a list of bytes, with the rest of the list. -/
def decode : List Byte → Except DecodeError (Instr × List Byte)
  | [] => .error .noOpcode
  | op :: rest =>
    if instrLength op ≤ rest.length + 1 then
      .ok (decodeFrom (fun k => (op :: rest).getD k 0), (op :: rest).drop (instrLength op))
    else .error (.truncated op)

/-- Decode exactly n instructions, one after the other (R100). -/
def decodeN : Nat → List Byte → Except DecodeError (List Instr × List Byte)
  | 0, bytes => .ok ([], bytes)
  | n + 1, bytes =>
    match decode bytes with
    | .error e => .error e
    | .ok (i, rest) =>
      match decodeN n rest with
      | .error e => .error e
      | .ok (is, rest') => .ok (i :: is, rest')

/-- The opcode byte of an instruction, the `match` column of spec/opcode_table.json. -/
def Instr.opcode : Instr → Byte
  | .nop => 0xEA
  | .clc => 0x18
  | .sec => 0x38
  | .ldaImm _ => 0xA9
  | .ldxImm _ => 0xA2
  | .ldyImm _ => 0xA0
  | .jmpAbs _ => 0x4C
  | .default00 => 0x00
  | .default01 => 0x01
  | .default02 => 0x02
  | .default03 => 0x03
  | .default04 => 0x04
  | .default05 => 0x05
  | .default06 => 0x06
  | .default07 => 0x07
  | .default08 => 0x08
  | .default09 => 0x09
  | .default0A => 0x0A
  | .default0B => 0x0B
  | .default0C => 0x0C
  | .default0D => 0x0D
  | .default0E => 0x0E
  | .default0F => 0x0F
  | .default10 => 0x10
  | .default11 => 0x11
  | .default12 => 0x12
  | .default13 => 0x13
  | .default14 => 0x14
  | .default15 => 0x15
  | .default16 => 0x16
  | .default17 => 0x17
  | .default19 => 0x19
  | .default1A => 0x1A
  | .default1B => 0x1B
  | .default1C => 0x1C
  | .default1D => 0x1D
  | .default1E => 0x1E
  | .default1F => 0x1F
  | .default20 => 0x20
  | .default21 => 0x21
  | .default22 => 0x22
  | .default23 => 0x23
  | .default24 => 0x24
  | .default25 => 0x25
  | .default26 => 0x26
  | .default27 => 0x27
  | .default28 => 0x28
  | .default29 => 0x29
  | .default2A => 0x2A
  | .default2B => 0x2B
  | .default2C => 0x2C
  | .default2D => 0x2D
  | .default2E => 0x2E
  | .default2F => 0x2F
  | .default30 => 0x30
  | .default31 => 0x31
  | .default32 => 0x32
  | .default33 => 0x33
  | .default34 => 0x34
  | .default35 => 0x35
  | .default36 => 0x36
  | .default37 => 0x37
  | .default39 => 0x39
  | .default3A => 0x3A
  | .default3B => 0x3B
  | .default3C => 0x3C
  | .default3D => 0x3D
  | .default3E => 0x3E
  | .default3F => 0x3F
  | .default40 => 0x40
  | .default41 => 0x41
  | .default42 => 0x42
  | .default43 => 0x43
  | .default44 => 0x44
  | .default45 => 0x45
  | .default46 => 0x46
  | .default47 => 0x47
  | .default48 => 0x48
  | .default49 => 0x49
  | .default4A => 0x4A
  | .default4B => 0x4B
  | .default4D => 0x4D
  | .default4E => 0x4E
  | .default4F => 0x4F
  | .default50 => 0x50
  | .default51 => 0x51
  | .default52 => 0x52
  | .default53 => 0x53
  | .default54 => 0x54
  | .default55 => 0x55
  | .default56 => 0x56
  | .default57 => 0x57
  | .default58 => 0x58
  | .default59 => 0x59
  | .default5A => 0x5A
  | .default5B => 0x5B
  | .default5C => 0x5C
  | .default5D => 0x5D
  | .default5E => 0x5E
  | .default5F => 0x5F
  | .default60 => 0x60
  | .default61 => 0x61
  | .default62 => 0x62
  | .default63 => 0x63
  | .default64 => 0x64
  | .default65 => 0x65
  | .default66 => 0x66
  | .default67 => 0x67
  | .default68 => 0x68
  | .default69 => 0x69
  | .default6A => 0x6A
  | .default6B => 0x6B
  | .default6C => 0x6C
  | .default6D => 0x6D
  | .default6E => 0x6E
  | .default6F => 0x6F
  | .default70 => 0x70
  | .default71 => 0x71
  | .default72 => 0x72
  | .default73 => 0x73
  | .default74 => 0x74
  | .default75 => 0x75
  | .default76 => 0x76
  | .default77 => 0x77
  | .default78 => 0x78
  | .default79 => 0x79
  | .default7A => 0x7A
  | .default7B => 0x7B
  | .default7C => 0x7C
  | .default7D => 0x7D
  | .default7E => 0x7E
  | .default7F => 0x7F
  | .default80 => 0x80
  | .default81 => 0x81
  | .default82 => 0x82
  | .default83 => 0x83
  | .default84 => 0x84
  | .default85 => 0x85
  | .default86 => 0x86
  | .default87 => 0x87
  | .default88 => 0x88
  | .default89 => 0x89
  | .default8A => 0x8A
  | .default8B => 0x8B
  | .default8C => 0x8C
  | .default8D => 0x8D
  | .default8E => 0x8E
  | .default8F => 0x8F
  | .default90 => 0x90
  | .default91 => 0x91
  | .default92 => 0x92
  | .default93 => 0x93
  | .default94 => 0x94
  | .default95 => 0x95
  | .default96 => 0x96
  | .default97 => 0x97
  | .default98 => 0x98
  | .default99 => 0x99
  | .default9A => 0x9A
  | .default9B => 0x9B
  | .default9C => 0x9C
  | .default9D => 0x9D
  | .default9E => 0x9E
  | .default9F => 0x9F
  | .defaultA1 => 0xA1
  | .defaultA3 => 0xA3
  | .defaultA4 => 0xA4
  | .defaultA5 => 0xA5
  | .defaultA6 => 0xA6
  | .defaultA7 => 0xA7
  | .defaultA8 => 0xA8
  | .defaultAA => 0xAA
  | .defaultAB => 0xAB
  | .defaultAC => 0xAC
  | .defaultAD => 0xAD
  | .defaultAE => 0xAE
  | .defaultAF => 0xAF
  | .defaultB0 => 0xB0
  | .defaultB1 => 0xB1
  | .defaultB2 => 0xB2
  | .defaultB3 => 0xB3
  | .defaultB4 => 0xB4
  | .defaultB5 => 0xB5
  | .defaultB6 => 0xB6
  | .defaultB7 => 0xB7
  | .defaultB8 => 0xB8
  | .defaultB9 => 0xB9
  | .defaultBA => 0xBA
  | .defaultBB => 0xBB
  | .defaultBC => 0xBC
  | .defaultBD => 0xBD
  | .defaultBE => 0xBE
  | .defaultBF => 0xBF
  | .defaultC0 => 0xC0
  | .defaultC1 => 0xC1
  | .defaultC2 => 0xC2
  | .defaultC3 => 0xC3
  | .defaultC4 => 0xC4
  | .defaultC5 => 0xC5
  | .defaultC6 => 0xC6
  | .defaultC7 => 0xC7
  | .defaultC8 => 0xC8
  | .defaultC9 => 0xC9
  | .defaultCA => 0xCA
  | .defaultCB => 0xCB
  | .defaultCC => 0xCC
  | .defaultCD => 0xCD
  | .defaultCE => 0xCE
  | .defaultCF => 0xCF
  | .defaultD0 => 0xD0
  | .defaultD1 => 0xD1
  | .defaultD2 => 0xD2
  | .defaultD3 => 0xD3
  | .defaultD4 => 0xD4
  | .defaultD5 => 0xD5
  | .defaultD6 => 0xD6
  | .defaultD7 => 0xD7
  | .defaultD8 => 0xD8
  | .defaultD9 => 0xD9
  | .defaultDA => 0xDA
  | .defaultDB => 0xDB
  | .defaultDC => 0xDC
  | .defaultDD => 0xDD
  | .defaultDE => 0xDE
  | .defaultDF => 0xDF
  | .defaultE0 => 0xE0
  | .defaultE1 => 0xE1
  | .defaultE2 => 0xE2
  | .defaultE3 => 0xE3
  | .defaultE4 => 0xE4
  | .defaultE5 => 0xE5
  | .defaultE6 => 0xE6
  | .defaultE7 => 0xE7
  | .defaultE8 => 0xE8
  | .defaultE9 => 0xE9
  | .defaultEB => 0xEB
  | .defaultEC => 0xEC
  | .defaultED => 0xED
  | .defaultEE => 0xEE
  | .defaultEF => 0xEF
  | .defaultF0 => 0xF0
  | .defaultF1 => 0xF1
  | .defaultF2 => 0xF2
  | .defaultF3 => 0xF3
  | .defaultF4 => 0xF4
  | .defaultF5 => 0xF5
  | .defaultF6 => 0xF6
  | .defaultF7 => 0xF7
  | .defaultF8 => 0xF8
  | .defaultF9 => 0xF9
  | .defaultFA => 0xFA
  | .defaultFB => 0xFB
  | .defaultFC => 0xFC
  | .defaultFD => 0xFD
  | .defaultFE => 0xFE
  | .defaultFF => 0xFF

/-- The operand bytes of an instruction, after its opcode byte (R100, R102, R103). -/
def Instr.operandBytes : Instr → List Byte
  | .ldaImm v => [v]
  | .ldxImm v => [v]
  | .ldyImm v => [v]
  | .jmpAbs a => [a.extractLsb' 0 8, a.extractLsb' 8 8]
  | _ => []

/-- The bytes of an instruction, in the order they stand in memory (R100). -/
def encode (i : Instr) : List Byte :=
  i.opcode :: i.operandBytes

/-- The seven opcode bytes with a registered handler (R104). -/
def registeredOpcodes : List Byte :=
  [0xEA, 0x18, 0x38, 0xA9, 0xA2, 0xA0, 0x4C]

/-- An instruction that runs the default handler: its opcode byte is not registered (R170, R171). -/
def Instr.isDefault (i : Instr) : Bool :=
  !registeredOpcodes.contains i.opcode

/-- The bytes a line of the assembler stands for (R109). -/
def AsmLine.bytes : AsmLine → List Byte
  | .nop => [0xEA]
  | .clc => [0x18]
  | .sec => [0x38]
  | .lda v => [0xA9, BitVec.ofNat 8 v]
  | .ldx v => [0xA2, BitVec.ofNat 8 v]
  | .ldy v => [0xA0, BitVec.ofNat 8 v]
  | .jmp a => [0x4C, BitVec.ofNat 8 a, BitVec.ofNat 8 (a / 256)]
  | .byte b => [BitVec.ofNat 8 b]

/-- The bytes of a program, its lines one after the other. -/
def assemble (lines : List AsmLine) : List Byte :=
  lines.flatMap AsmLine.bytes

/-- The three bytes, the longest instruction's length, of an instruction whose bits are w, bit 0 the least
significant bit of the first byte. Bits at nbits and above are zero. -/
def tableBytes (nbits w : Nat) : List Byte :=
  let bits := w % 2 ^ nbits
  [BitVec.ofNat 8 bits, BitVec.ofNat 8 (bits / 0x100), BitVec.ofNat 8 (bits / 0x10000)]

/-- The instruction the decoder reads from a word of the opcode table. -/
def decodeTableWord (nbits w : Nat) : Option Instr :=
  match decode (tableBytes nbits w) with
  | .ok (i, _) => some i
  | .error _ => none

end Sys2Proof
end

