-- ==== Sys2Proof/Machine/Flags.lean ====
section
/-! DEFINITION. The status register P and the flag computations (10_state.md R29 to R38). -/

namespace Sys2Proof.Machine

/-- The flags of P (R31). -/
inductive Flag where
  | c | z | i | d | x | m | v | n
deriving DecidableEq, Repr

/-- The bit of P a flag stands at (R31; the layout is general knowledge, D4, log 7). -/
def flagBit : Flag → Nat
  | .c => 0
  | .z => 1
  | .i => 2
  | .d => 3
  | .x => 4
  | .m => 5
  | .v => 6
  | .n => 7

/-- The value of a flag of P. -/
def getFlag (p : Byte) (f : Flag) : Bool :=
  p.getLsbD (flagBit f)

/-- The mask of a flag's bit in P. -/
def flagMask (f : Flag) : Byte :=
  (1 : Byte) <<< flagBit f

/-- P with one flag written and every other bit as it was (R34). -/
def setFlag (p : Byte) (f : Flag) (value : Bool) : Byte :=
  if value then p ||| flagMask f else p &&& ~~~flagMask f

/-- set_nz (R38): N is bit 7 of the operand and Z says it is zero, over 8 bits; the other bits of P stay. -/
def setNz (p v : Byte) : Byte :=
  setFlag (setFlag p .n (v.getLsbD 7)) .z (v == 0)

end Sys2Proof.Machine
end

