-- ==== Sys2Proof/Machine/Operands.lean ====
section
/-! DEFINITION. The operand forms of 30_encoding.md R100: IMP and DEF take none, IMM8 one byte, ABS16 a 16-bit
offset. What a load and a jump make of theirs. -/

namespace Sys2Proof.Machine

/-- The value an immediate load writes to its 16-bit register: the operand byte zero-extended, not scaled and not
shifted (R102, R150). -/
def immValue (imm8 : Byte) : Word :=
  imm8.setWidth 16

/-- The target of JMP abs: the operand as it is, an offset in the current program bank (R103). -/
def jumpTarget (addr16 : Word) : Word :=
  addr16

end Sys2Proof.Machine
end

