-- ==== Sys2Proof/Config.lean ====
section
/-! DEFINITION. The implementation parameters of R8: the sizes the spec fixes, and the one parameter it leaves
open inside the core, the pixel function. The other open parameters (cpu_power_on, mem_power_on, burst_len) are
arguments of the definitions that use them. -/

namespace Sys2Proof

/-- WRAM size in bytes (R41). -/
def Config.wramSize : Nat := 0x20000
/-- SRAM size in bytes (R42). -/
def Config.sramSize : Nat := 0x8000
/-- VRAM size in bytes (R43). -/
def Config.vramSize : Nat := 0x10000
/-- CGRAM size in bytes (R43). -/
def Config.cgramSize : Nat := 512
/-- OAM size in bytes (R43). -/
def Config.oamSize : Nat := 544
/-- Bytes in a full ROM bank (R44). -/
def Config.romBankSize : Nat := 0x8000
/-- Scanlines of a frame (R46). -/
def Config.scanlines : Nat := 262
/-- Bytes of the framebuffer, 256 by 224 pixels of 3 bytes (R48). -/
def Config.frameBytes : Nat := 172032

/-- A pixel function: a pure function of the column and the visible line (R213). -/
abbrev PixelFn := Fin 256 → Fin 224 → Rgb

/-- The OPEN parameter pixel_fn (R213, D21): any pure function conforms, so nothing is known of this one (log 8). -/
opaque Config.pixelFn : PixelFn

end Sys2Proof
end

