-- ==== Sys2Proof/Machine/State.lean ====
section
/-! DEFINITION. The state of the core: everything 10_state.md gives the machine (R20 to R49), as plain data, the
reasons a step can stop, and the state after reset. -/

namespace Sys2Proof.Machine

/-- A byte array of the core (WRAM, SRAM, VRAM, CGRAM, OAM, FB, the bytes of a ROM bank), as its non-zero bytes by
index: indices strictly rising, no entry 0x00. An unlisted index holds 0x00, so every contents has exactly one such
list (log 3, log 13). -/
abbrev Memory := List Host.Cell

/-- The form a `Memory` keeps from index `lo` on: indices rising from `lo`, no byte 0x00. -/
def Memory.wfFrom : Nat → Memory → Bool
  | _, [] => true
  | lo, (a, v) :: m => decide (lo ≤ a) && decide (v ≠ 0) && Memory.wfFrom (a + 1) m

/-- The canonical form of a `Memory`. -/
def Memory.wf (m : Memory) : Bool :=
  Memory.wfFrom 0 m

/-- Every listed index lies in an array of n bytes. -/
def Memory.within (n : Nat) (m : Memory) : Bool :=
  m.all (fun cell => decide (cell.1 < n))

/-- A ROM bank (R44): a byte sequence of length `len`, its bytes by index. -/
structure RomBank where
  len : Nat
  cells : Memory
deriving DecidableEq, Repr

/-- A button of the controller (R49), in the canonical order. -/
inductive Button where
  | b | y | select | start | up | down | left | right | a | x | l | r
deriving DecidableEq, Repr

/-- The controller's button state BTN: one boolean per button, true when pressed (R49). -/
structure Buttons where
  b : Bool
  y : Bool
  select : Bool
  start : Bool
  up : Bool
  down : Bool
  left : Bool
  right : Bool
  a : Bool
  x : Bool
  l : Bool
  r : Bool
deriving DecidableEq, Repr

/-- Every button released (R49). -/
def Buttons.released : Buttons :=
  ⟨false, false, false, false, false, false, false, false, false, false, false, false⟩

/-- The state of the core (R6): the CPU register file, the memories, the PPU and the controller. -/
structure State where
  /-- The accumulator A (R21). -/
  a : Word
  /-- The index register X (R22). -/
  x : Word
  /-- The index register Y (R23). -/
  y : Word
  /-- The stack pointer SP (R24). -/
  sp : Word
  /-- The program counter PC, an offset in bank PB (R25). -/
  pc : Word
  /-- The program bank PB (R26). -/
  pb : Byte
  /-- The data bank DB (R27). -/
  db : Byte
  /-- The status register P, laid out as R31 says (R29). -/
  p : Byte
  /-- The emulation-mode flag E, apart from P (R37). -/
  e : Bool
  /-- The cycle counter CYC (R39). -/
  cyc : Nat
  /-- Work RAM, 131072 bytes (R41). -/
  wram : Memory
  /-- Save RAM, 32768 bytes, reached by no address (R42). -/
  sram : Memory
  /-- Video RAM, 65536 bytes, reached by no address (R43). -/
  vram : Memory
  /-- Palette RAM, 512 bytes, reached by no address (R43). -/
  cgram : Memory
  /-- Object memory, 544 bytes, reached by no address (R43). -/
  oam : Memory
  /-- The ROM banks (R44). -/
  rom : List RomBank
  /-- The PPU's scanline (R46). -/
  scanline : Nat
  /-- The PPU's background-mode selector (R47). -/
  bgMode : Byte
  /-- The PPU's brightness level (R47). -/
  brightness : Byte
  /-- The framebuffer FB by byte index, row-major, three bytes a pixel (R48, R216). -/
  fb : Memory
  /-- The controller's buttons BTN (R49). -/
  btn : Buttons
deriving DecidableEq, Repr

/-- A reason for a step to stop with a fault. It has no constructor: the core raises no exception, trap or fault
(R200), and no operation of this model answers one. -/
inductive Fault where
deriving DecidableEq, Repr

/-- A reason for a step to be refused. -/
inductive Refusal where
  /-- The named instruction has no meaning in this model. Every instruction has one, so no arm of `exec` answers
  this; it is safe, since a claim about a refused step says nothing. -/
  | notModelled (mnemonic : String)
deriving DecidableEq, Repr

/-- The parameter cpu_power_on (R54, D8): the CPU registers at construction, any values of their widths. -/
structure CpuPowerOn where
  a : Word
  x : Word
  y : Word
  sp : Word
  pc : Word
  pb : Byte
  db : Byte
  p : Byte
  e : Bool
deriving DecidableEq, Repr

/-- The parameter mem_power_on (R54, D13): the memories' contents at construction. -/
structure MemPowerOn where
  wram : Memory
  sram : Memory
  vram : Memory
  cgram : Memory
  oam : Memory
deriving DecidableEq, Repr

/-- The machine right after reset: the construction state (R54) after one CpuReset with no ROM loaded (R260, R263;
log 2). A, X, Y and DB, which CpuReset does not write, are 0 (DESIGN CHOICE, unsafe, log 1), and the five memories
hold 0x00 (DESIGN CHOICE, unsafe, log 3). -/
def State.reset : State where
  a := 0
  x := 0
  y := 0
  sp := 0x01FF
  pc := 0
  pb := 0
  db := 0
  p := 0x34
  e := true
  cyc := 0
  wram := []
  sram := []
  vram := []
  cgram := []
  oam := []
  rom := []
  scanline := 0
  bgMode := 0
  brightness := 0
  fb := []
  btn := .released

end Sys2Proof.Machine
end

