-- ==== Sys2Proof/Machine/Ops.lean ====
section
/-! DEFINITION. The operations over memory and registers: the byte arrays, the address decoder (20_memory.md), ROM
loading, the register writes, instruction fetch, and CpuReset. The core takes no exception and returns from none
(R200, R204, R205), so there is no operation for either. -/

namespace Sys2Proof.Machine

/-! ### Byte arrays -/

/-- The byte at an index: 0x00 where nothing is listed (log 3). -/
def Memory.read : Memory → Nat → Byte
  | [], _ => 0
  | (k, v) :: m, a => if a < k then 0 else if a = k then v else Memory.read m a

/-- The cell of a byte, none for 0x00, which is what an unlisted index holds. -/
def Memory.cell (a : Nat) (v : Byte) : Memory :=
  if v = 0 then [] else [(a, v)]

/-- The array with one byte stored, in canonical form again. -/
def Memory.write : Memory → Nat → Byte → Memory
  | [], a, v => Memory.cell a v
  | (k, w) :: m, a, v =>
    if a < k then Memory.cell a v ++ (k, w) :: m
    else if a = k then Memory.cell a v ++ m
    else (k, w) :: Memory.write m a v

/-- The array of a list of bytes, the first at index `a`. -/
def Memory.ofBytes : Nat → List Byte → Memory
  | _, [] => []
  | a, v :: vs => Memory.cell a v ++ Memory.ofBytes (a + 1) vs

/-! ### The address decoder -/

/-- The bank of an address (R60). -/
def bankOf (addr : Addr) : Byte :=
  addr.extractLsb' 16 8

/-- The offset of an address (R60). -/
def offsetOf (addr : Addr) : Word :=
  addr.extractLsb' 0 16

/-- The address `bank:offset`, that is (bank << 16) | offset (R28). -/
def mkAddr (bank : Byte) (offset : Word) : Addr :=
  bank ++ offset

/-- A host integer as an address: bits 24 and up are discarded (R60, D30, log 17). -/
def hostAddr (n : Nat) : Addr :=
  BitVec.ofNat 24 n

/-- Where the decoder routes an address (R66). -/
inductive Target where
  | wram (index : Nat)
  | rom (bank : Nat) (byte : Nat)
  | unmapped
deriving DecidableEq, Repr

/-- The length of ROM bank b, 0 where there is no such bank. -/
def State.romLen (s : State) (b : Nat) : Nat :=
  match s.rom[b]? with
  | some bank => bank.len
  | none => 0

/-- The byte i of ROM bank b. -/
def State.romByte (s : State) (b i : Nat) : Byte :=
  match s.rom[b]? with
  | some bank => bank.cells.read i
  | none => 0

/-- ROM(b, i) if that bank and that byte of it exist, else unmapped (R63, R64, D11, log 11). -/
def State.romTarget (s : State) (b i : Nat) : Target :=
  if b < s.rom.length ∧ i < s.romLen b then .rom b i else .unmapped

/-- The address decoder, first match wins (R61 to R66). -/
def State.decodeAddr (s : State) (addr : Addr) : Target :=
  let bank := (bankOf addr).toNat
  let offset := (offsetOf addr).toNat
  if bank = 0x7E ∨ bank = 0x7F then .wram ((bank - 0x7E) * 0x10000 + offset)
  else if offset < 0x2000 then .wram offset
  else if 0x80 ≤ bank ∧ 0x8000 ≤ offset then s.romTarget (bank - 0x80) (offset - 0x8000)
  else if bank < 0x40 ∧ 0x8000 ≤ offset then s.romTarget bank (offset - 0x8000)
  else .unmapped

/-- MemRead (R67): the byte the address is routed to, 0x00 where it is unmapped. -/
def State.memRead (s : State) (addr : Addr) : Byte :=
  match s.decodeAddr addr with
  | .wram j => s.wram.read j
  | .rom b i => s.romByte b i
  | .unmapped => 0

/-- MemWrite (R68): one WRAM byte stored, or nothing. -/
def State.memWrite (s : State) (addr : Addr) (v : Byte) : State :=
  match s.decodeAddr addr with
  | .wram j => { s with wram := s.wram.write j v }
  | .rom _ _ => s
  | .unmapped => s

/-! ### ROM loading -/

/-- rom_loaded (R45): the ROM holds at least one bank. -/
def State.romLoaded (s : State) : Bool :=
  !s.rom.isEmpty

/-- The ROM bank of a byte sequence. -/
def RomBank.ofBytes (bytes : List Byte) : RomBank :=
  ⟨bytes.length, Memory.ofBytes 0 bytes⟩

/-- The first n banks of a ROM image, 0x8000 bytes each, the last one as short as the image leaves it (R70). -/
def romBanks : Nat → List Byte → List RomBank
  | 0, _ => []
  | n + 1, data => .ofBytes (data.take Config.romBankSize) :: romBanks n (data.drop Config.romBankSize)

/-- The image without its copier header, which it has when its length is 512 modulo 1024 (R70). -/
def stripHeader (data : List Byte) : List Byte :=
  if data.length % 1024 = 512 then data.drop 512 else data

/-- The number of banks of n bytes: n / 0x8000, rounded up (R70). -/
def bankCount (n : Nat) : Nat :=
  (n + (Config.romBankSize - 1)) / Config.romBankSize

/-- LoadRom (R70, R71): nothing for empty data, else the whole ROM replaced by the banks of the stripped image. -/
def State.loadRom (s : State) (data : List Byte) : State :=
  if data.isEmpty then s
  else
    let stored := stripHeader data
    { s with rom := romBanks (bankCount stored.length) stored }

/-! ### Register writes -/

/-- PC after n byte fetches: n more, modulo 2^16, the bank unchanged (R12, R25). -/
def State.advancePc (s : State) (n : Nat) : State :=
  { s with pc := s.pc + BitVec.ofNat 16 n }

/-- PC <- target (R160). -/
def State.setPc (s : State) (target : Word) : State :=
  { s with pc := target }

/-- A <- v (R21). -/
def State.setA (s : State) (v : Word) : State :=
  { s with a := v }

/-- X <- v (R22). -/
def State.setX (s : State) (v : Word) : State :=
  { s with x := v }

/-- Y <- v (R23). -/
def State.setY (s : State) (v : Word) : State :=
  { s with y := v }

/-- P <- v (R29). -/
def State.setP (s : State) (v : Byte) : State :=
  { s with p := v }

/-- Cost(n): CYC <- CYC + n (R14, R39). -/
def State.addCycles (s : State) (n : Nat) : State :=
  { s with cyc := s.cyc + n }

/-! ### Instruction fetch -/

/-- The address of the k-th byte from PC on: bank PB, the offset modulo 2^16 (R28, R100). -/
def State.fetchAddr (s : State) (k : Nat) : Addr :=
  mkAddr s.pb (s.pc + BitVec.ofNat 16 k)

/-- The k-th byte of the instruction stream at PC, read through the decoder (R12, R84). -/
def State.instrByte (s : State) (k : Nat) : Byte :=
  s.memRead (s.fetchAddr k)

/-- Fetch8 (R12): the byte at PB:PC, and PC advanced by one. -/
def State.fetch8 (s : State) : Byte × State :=
  (s.memRead (s.fetchAddr 0), s.advancePc 1)

/-- The instruction at PC: only the bytes its opcode takes are read (R100, R106). -/
def State.fetchInstr (s : State) : Instr :=
  decodeFrom s.instrByte

/-! ### Construction, CpuReset, and placing a program -/

/-- The construction state (R54), over its two parameters. -/
def State.construct (cpu : CpuPowerOn) (mem : MemPowerOn) : State where
  a := cpu.a
  x := cpu.x
  y := cpu.y
  sp := cpu.sp
  pc := cpu.pc
  pb := cpu.pb
  db := cpu.db
  p := cpu.p
  e := cpu.e
  cyc := 0
  wram := mem.wram
  sram := mem.sram
  vram := mem.vram
  cgram := mem.cgram
  oam := mem.oam
  rom := []
  scanline := 0
  bgMode := 0
  brightness := 0
  fb := []
  btn := .released

/-- CpuReset (R260): PC from the little-endian vector at 0x00FFFC, read through the decoder, and PB, SP, P and E at
their reset values; A, X, Y, DB, CYC and everything outside the CPU stay (R262). -/
def State.cpuReset (s : State) : State :=
  { s with
    pc := joinBytes (s.memRead 0x00FFFC) (s.memRead 0x00FFFD)
    pb := 0x00
    sp := 0x01FF
    p := 0x34
    e := true }

/-- The address is routed to WRAM. -/
def State.isWram (s : State) (addr : Addr) : Bool :=
  match s.decodeAddr addr with
  | .wram _ => true
  | .rom _ _ => false
  | .unmapped => false

/-- The state in which the three bytes stand where the next CpuStep fetches (log 4): a one-byte ROM is loaded if
there is none (the guard of R124 needs one), PC and PB stay if the three fetch addresses are WRAM and become 0x000000
if not, and the bytes are stored by MemWrite. -/
def State.placeInstr (s : State) (b0 b1 b2 : Byte) : State :=
  let loaded := if s.romLoaded then s else s.loadRom [0x00]
  let t :=
    if loaded.isWram (loaded.fetchAddr 0) && loaded.isWram (loaded.fetchAddr 1) && loaded.isWram (loaded.fetchAddr 2) then loaded
    else { loaded with pc := 0, pb := 0 }
  ((t.memWrite (t.fetchAddr 0) b0).memWrite (t.fetchAddr 1) b1).memWrite (t.fetchAddr 2) b2

end Sys2Proof.Machine
end

