-- ==== Sys2Proof/Machine/Default.lean ====
section
/-! DEFINITION. The default handler (44_unimplemented.md R170 to R173): the meaning of each of the 249 opcode bytes
without a registered handler, in the order of spec/opcode_table.json. -/

namespace Sys2Proof.Machine

/-- The base cost of the default handler (R121): the source says only "a fixed cycle cost", and 2 is the spec's
decision D9 (log 10). -/
def defaultCost : Nat := 2

/-- The whole step of R170: the opcode fetch, no effect, and the cost. -/
def runDefault (s : State) : Host.Outcome State Fault Refusal :=
  .next ((s.advancePc 1).addCycles defaultCost)

/-- Opcode byte 0x00, not registered (R170). -/
def execDefault00 (s : State) : Host.Outcome State Fault Refusal := runDefault s
/-- Opcode byte 0x01, not registered (R170). -/
def execDefault01 (s : State) : Host.Outcome State Fault Refusal := runDefault s
/-- Opcode byte 0x02, not registered (R170). -/
def execDefault02 (s : State) : Host.Outcome State Fault Refusal := runDefault s
/-- Opcode byte 0x03, not registered (R170). -/
def execDefault03 (s : State) : Host.Outcome State Fault Refusal := runDefault s
/-- Opcode byte 0x04, not registered (R170). -/
def execDefault04 (s : State) : Host.Outcome State Fault Refusal := runDefault s
/-- Opcode byte 0x05, not registered (R170). -/
def execDefault05 (s : State) : Host.Outcome State Fault Refusal := runDefault s
/-- Opcode byte 0x06, not registered (R170). -/
def execDefault06 (s : State) : Host.Outcome State Fault Refusal := runDefault s
/-- Opcode byte 0x07, not registered (R170). -/
def execDefault07 (s : State) : Host.Outcome State Fault Refusal := runDefault s
/-- Opcode byte 0x08, not registered (R170). -/
def execDefault08 (s : State) : Host.Outcome State Fault Refusal := runDefault s
/-- Opcode byte 0x09, not registered (R170). -/
def execDefault09 (s : State) : Host.Outcome State Fault Refusal := runDefault s
/-- Opcode byte 0x0A, not registered (R170). -/
def execDefault0A (s : State) : Host.Outcome State Fault Refusal := runDefault s
/-- Opcode byte 0x0B, not registered (R170). -/
def execDefault0B (s : State) : Host.Outcome State Fault Refusal := runDefault s
/-- Opcode byte 0x0C, not registered (R170). -/
def execDefault0C (s : State) : Host.Outcome State Fault Refusal := runDefault s
/-- Opcode byte 0x0D, not registered (R170). -/
def execDefault0D (s : State) : Host.Outcome State Fault Refusal := runDefault s
/-- Opcode byte 0x0E, not registered (R170). -/
def execDefault0E (s : State) : Host.Outcome State Fault Refusal := runDefault s
/-- Opcode byte 0x0F, not registered (R170). -/
def execDefault0F (s : State) : Host.Outcome State Fault Refusal := runDefault s
/-- Opcode byte 0x10, not registered (R170). -/
def execDefault10 (s : State) : Host.Outcome State Fault Refusal := runDefault s
/-- Opcode byte 0x11, not registered (R170). -/
def execDefault11 (s : State) : Host.Outcome State Fault Refusal := runDefault s
/-- Opcode byte 0x12, not registered (R170). -/
def execDefault12 (s : State) : Host.Outcome State Fault Refusal := runDefault s
/-- Opcode byte 0x13, not registered (R170). -/
def execDefault13 (s : State) : Host.Outcome State Fault Refusal := runDefault s
/-- Opcode byte 0x14, not registered (R170). -/
def execDefault14 (s : State) : Host.Outcome State Fault Refusal := runDefault s
/-- Opcode byte 0x15, not registered (R170). -/
def execDefault15 (s : State) : Host.Outcome State Fault Refusal := runDefault s
/-- Opcode byte 0x16, not registered (R170). -/
def execDefault16 (s : State) : Host.Outcome State Fault Refusal := runDefault s
/-- Opcode byte 0x17, not registered (R170). -/
def execDefault17 (s : State) : Host.Outcome State Fault Refusal := runDefault s
/-- Opcode byte 0x19, not registered (R170). -/
def execDefault19 (s : State) : Host.Outcome State Fault Refusal := runDefault s
/-- Opcode byte 0x1A, not registered (R170). -/
def execDefault1A (s : State) : Host.Outcome State Fault Refusal := runDefault s
/-- Opcode byte 0x1B, not registered (R170). -/
def execDefault1B (s : State) : Host.Outcome State Fault Refusal := runDefault s
/-- Opcode byte 0x1C, not registered (R170). -/
def execDefault1C (s : State) : Host.Outcome State Fault Refusal := runDefault s
/-- Opcode byte 0x1D, not registered (R170). -/
def execDefault1D (s : State) : Host.Outcome State Fault Refusal := runDefault s
/-- Opcode byte 0x1E, not registered (R170). -/
def execDefault1E (s : State) : Host.Outcome State Fault Refusal := runDefault s
/-- Opcode byte 0x1F, not registered (R170). -/
def execDefault1F (s : State) : Host.Outcome State Fault Refusal := runDefault s
/-- Opcode byte 0x20, not registered (R170). -/
def execDefault20 (s : State) : Host.Outcome State Fault Refusal := runDefault s
/-- Opcode byte 0x21, not registered (R170). -/
def execDefault21 (s : State) : Host.Outcome State Fault Refusal := runDefault s
/-- Opcode byte 0x22, not registered (R170). -/
def execDefault22 (s : State) : Host.Outcome State Fault Refusal := runDefault s
/-- Opcode byte 0x23, not registered (R170). -/
def execDefault23 (s : State) : Host.Outcome State Fault Refusal := runDefault s
/-- Opcode byte 0x24, not registered (R170). -/
def execDefault24 (s : State) : Host.Outcome State Fault Refusal := runDefault s
/-- Opcode byte 0x25, not registered (R170). -/
def execDefault25 (s : State) : Host.Outcome State Fault Refusal := runDefault s
/-- Opcode byte 0x26, not registered (R170). -/
def execDefault26 (s : State) : Host.Outcome State Fault Refusal := runDefault s
/-- Opcode byte 0x27, not registered (R170). -/
def execDefault27 (s : State) : Host.Outcome State Fault Refusal := runDefault s
/-- Opcode byte 0x28, not registered (R170). -/
def execDefault28 (s : State) : Host.Outcome State Fault Refusal := runDefault s
/-- Opcode byte 0x29, not registered (R170). -/
def execDefault29 (s : State) : Host.Outcome State Fault Refusal := runDefault s
/-- Opcode byte 0x2A, not registered (R170). -/
def execDefault2A (s : State) : Host.Outcome State Fault Refusal := runDefault s
/-- Opcode byte 0x2B, not registered (R170). -/
def execDefault2B (s : State) : Host.Outcome State Fault Refusal := runDefault s
/-- Opcode byte 0x2C, not registered (R170). -/
def execDefault2C (s : State) : Host.Outcome State Fault Refusal := runDefault s
/-- Opcode byte 0x2D, not registered (R170). -/
def execDefault2D (s : State) : Host.Outcome State Fault Refusal := runDefault s
/-- Opcode byte 0x2E, not registered (R170). -/
def execDefault2E (s : State) : Host.Outcome State Fault Refusal := runDefault s
/-- Opcode byte 0x2F, not registered (R170). -/
def execDefault2F (s : State) : Host.Outcome State Fault Refusal := runDefault s
/-- Opcode byte 0x30, not registered (R170). -/
def execDefault30 (s : State) : Host.Outcome State Fault Refusal := runDefault s
/-- Opcode byte 0x31, not registered (R170). -/
def execDefault31 (s : State) : Host.Outcome State Fault Refusal := runDefault s
/-- Opcode byte 0x32, not registered (R170). -/
def execDefault32 (s : State) : Host.Outcome State Fault Refusal := runDefault s
/-- Opcode byte 0x33, not registered (R170). -/
def execDefault33 (s : State) : Host.Outcome State Fault Refusal := runDefault s
/-- Opcode byte 0x34, not registered (R170). -/
def execDefault34 (s : State) : Host.Outcome State Fault Refusal := runDefault s
/-- Opcode byte 0x35, not registered (R170). -/
def execDefault35 (s : State) : Host.Outcome State Fault Refusal := runDefault s
/-- Opcode byte 0x36, not registered (R170). -/
def execDefault36 (s : State) : Host.Outcome State Fault Refusal := runDefault s
/-- Opcode byte 0x37, not registered (R170). -/
def execDefault37 (s : State) : Host.Outcome State Fault Refusal := runDefault s
/-- Opcode byte 0x39, not registered (R170). -/
def execDefault39 (s : State) : Host.Outcome State Fault Refusal := runDefault s
/-- Opcode byte 0x3A, not registered (R170). -/
def execDefault3A (s : State) : Host.Outcome State Fault Refusal := runDefault s
/-- Opcode byte 0x3B, not registered (R170). -/
def execDefault3B (s : State) : Host.Outcome State Fault Refusal := runDefault s
/-- Opcode byte 0x3C, not registered (R170). -/
def execDefault3C (s : State) : Host.Outcome State Fault Refusal := runDefault s
/-- Opcode byte 0x3D, not registered (R170). -/
def execDefault3D (s : State) : Host.Outcome State Fault Refusal := runDefault s
/-- Opcode byte 0x3E, not registered (R170). -/
def execDefault3E (s : State) : Host.Outcome State Fault Refusal := runDefault s
/-- Opcode byte 0x3F, not registered (R170). -/
def execDefault3F (s : State) : Host.Outcome State Fault Refusal := runDefault s
/-- Opcode byte 0x40, not registered (R170). -/
def execDefault40 (s : State) : Host.Outcome State Fault Refusal := runDefault s
/-- Opcode byte 0x41, not registered (R170). -/
def execDefault41 (s : State) : Host.Outcome State Fault Refusal := runDefault s
/-- Opcode byte 0x42, not registered (R170). -/
def execDefault42 (s : State) : Host.Outcome State Fault Refusal := runDefault s
/-- Opcode byte 0x43, not registered (R170). -/
def execDefault43 (s : State) : Host.Outcome State Fault Refusal := runDefault s
/-- Opcode byte 0x44, not registered (R170). -/
def execDefault44 (s : State) : Host.Outcome State Fault Refusal := runDefault s
/-- Opcode byte 0x45, not registered (R170). -/
def execDefault45 (s : State) : Host.Outcome State Fault Refusal := runDefault s
/-- Opcode byte 0x46, not registered (R170). -/
def execDefault46 (s : State) : Host.Outcome State Fault Refusal := runDefault s
/-- Opcode byte 0x47, not registered (R170). -/
def execDefault47 (s : State) : Host.Outcome State Fault Refusal := runDefault s
/-- Opcode byte 0x48, not registered (R170). -/
def execDefault48 (s : State) : Host.Outcome State Fault Refusal := runDefault s
/-- Opcode byte 0x49, not registered (R170). -/
def execDefault49 (s : State) : Host.Outcome State Fault Refusal := runDefault s
/-- Opcode byte 0x4A, not registered (R170). -/
def execDefault4A (s : State) : Host.Outcome State Fault Refusal := runDefault s
/-- Opcode byte 0x4B, not registered (R170). -/
def execDefault4B (s : State) : Host.Outcome State Fault Refusal := runDefault s
/-- Opcode byte 0x4D, not registered (R170). -/
def execDefault4D (s : State) : Host.Outcome State Fault Refusal := runDefault s
/-- Opcode byte 0x4E, not registered (R170). -/
def execDefault4E (s : State) : Host.Outcome State Fault Refusal := runDefault s
/-- Opcode byte 0x4F, not registered (R170). -/
def execDefault4F (s : State) : Host.Outcome State Fault Refusal := runDefault s
/-- Opcode byte 0x50, not registered (R170). -/
def execDefault50 (s : State) : Host.Outcome State Fault Refusal := runDefault s
/-- Opcode byte 0x51, not registered (R170). -/
def execDefault51 (s : State) : Host.Outcome State Fault Refusal := runDefault s
/-- Opcode byte 0x52, not registered (R170). -/
def execDefault52 (s : State) : Host.Outcome State Fault Refusal := runDefault s
/-- Opcode byte 0x53, not registered (R170). -/
def execDefault53 (s : State) : Host.Outcome State Fault Refusal := runDefault s
/-- Opcode byte 0x54, not registered (R170). -/
def execDefault54 (s : State) : Host.Outcome State Fault Refusal := runDefault s
/-- Opcode byte 0x55, not registered (R170). -/
def execDefault55 (s : State) : Host.Outcome State Fault Refusal := runDefault s
/-- Opcode byte 0x56, not registered (R170). -/
def execDefault56 (s : State) : Host.Outcome State Fault Refusal := runDefault s
/-- Opcode byte 0x57, not registered (R170). -/
def execDefault57 (s : State) : Host.Outcome State Fault Refusal := runDefault s
/-- Opcode byte 0x58, not registered (R170). -/
def execDefault58 (s : State) : Host.Outcome State Fault Refusal := runDefault s
/-- Opcode byte 0x59, not registered (R170). -/
def execDefault59 (s : State) : Host.Outcome State Fault Refusal := runDefault s
/-- Opcode byte 0x5A, not registered (R170). -/
def execDefault5A (s : State) : Host.Outcome State Fault Refusal := runDefault s
/-- Opcode byte 0x5B, not registered (R170). -/
def execDefault5B (s : State) : Host.Outcome State Fault Refusal := runDefault s
/-- Opcode byte 0x5C, not registered (R170). -/
def execDefault5C (s : State) : Host.Outcome State Fault Refusal := runDefault s
/-- Opcode byte 0x5D, not registered (R170). -/
def execDefault5D (s : State) : Host.Outcome State Fault Refusal := runDefault s
/-- Opcode byte 0x5E, not registered (R170). -/
def execDefault5E (s : State) : Host.Outcome State Fault Refusal := runDefault s
/-- Opcode byte 0x5F, not registered (R170). -/
def execDefault5F (s : State) : Host.Outcome State Fault Refusal := runDefault s
/-- Opcode byte 0x60, not registered (R170). -/
def execDefault60 (s : State) : Host.Outcome State Fault Refusal := runDefault s
/-- Opcode byte 0x61, not registered (R170). -/
def execDefault61 (s : State) : Host.Outcome State Fault Refusal := runDefault s
/-- Opcode byte 0x62, not registered (R170). -/
def execDefault62 (s : State) : Host.Outcome State Fault Refusal := runDefault s
/-- Opcode byte 0x63, not registered (R170). -/
def execDefault63 (s : State) : Host.Outcome State Fault Refusal := runDefault s
/-- Opcode byte 0x64, not registered (R170). -/
def execDefault64 (s : State) : Host.Outcome State Fault Refusal := runDefault s
/-- Opcode byte 0x65, not registered (R170). -/
def execDefault65 (s : State) : Host.Outcome State Fault Refusal := runDefault s
/-- Opcode byte 0x66, not registered (R170). -/
def execDefault66 (s : State) : Host.Outcome State Fault Refusal := runDefault s
/-- Opcode byte 0x67, not registered (R170). -/
def execDefault67 (s : State) : Host.Outcome State Fault Refusal := runDefault s
/-- Opcode byte 0x68, not registered (R170). -/
def execDefault68 (s : State) : Host.Outcome State Fault Refusal := runDefault s
/-- Opcode byte 0x69, not registered (R170). -/
def execDefault69 (s : State) : Host.Outcome State Fault Refusal := runDefault s
/-- Opcode byte 0x6A, not registered (R170). -/
def execDefault6A (s : State) : Host.Outcome State Fault Refusal := runDefault s
/-- Opcode byte 0x6B, not registered (R170). -/
def execDefault6B (s : State) : Host.Outcome State Fault Refusal := runDefault s
/-- Opcode byte 0x6C, not registered (R170). -/
def execDefault6C (s : State) : Host.Outcome State Fault Refusal := runDefault s
/-- Opcode byte 0x6D, not registered (R170). -/
def execDefault6D (s : State) : Host.Outcome State Fault Refusal := runDefault s
/-- Opcode byte 0x6E, not registered (R170). -/
def execDefault6E (s : State) : Host.Outcome State Fault Refusal := runDefault s
/-- Opcode byte 0x6F, not registered (R170). -/
def execDefault6F (s : State) : Host.Outcome State Fault Refusal := runDefault s
/-- Opcode byte 0x70, not registered (R170). -/
def execDefault70 (s : State) : Host.Outcome State Fault Refusal := runDefault s
/-- Opcode byte 0x71, not registered (R170). -/
def execDefault71 (s : State) : Host.Outcome State Fault Refusal := runDefault s
/-- Opcode byte 0x72, not registered (R170). -/
def execDefault72 (s : State) : Host.Outcome State Fault Refusal := runDefault s
/-- Opcode byte 0x73, not registered (R170). -/
def execDefault73 (s : State) : Host.Outcome State Fault Refusal := runDefault s
/-- Opcode byte 0x74, not registered (R170). -/
def execDefault74 (s : State) : Host.Outcome State Fault Refusal := runDefault s
/-- Opcode byte 0x75, not registered (R170). -/
def execDefault75 (s : State) : Host.Outcome State Fault Refusal := runDefault s
/-- Opcode byte 0x76, not registered (R170). -/
def execDefault76 (s : State) : Host.Outcome State Fault Refusal := runDefault s
/-- Opcode byte 0x77, not registered (R170). -/
def execDefault77 (s : State) : Host.Outcome State Fault Refusal := runDefault s
/-- Opcode byte 0x78, not registered (R170). -/
def execDefault78 (s : State) : Host.Outcome State Fault Refusal := runDefault s
/-- Opcode byte 0x79, not registered (R170). -/
def execDefault79 (s : State) : Host.Outcome State Fault Refusal := runDefault s
/-- Opcode byte 0x7A, not registered (R170). -/
def execDefault7A (s : State) : Host.Outcome State Fault Refusal := runDefault s
/-- Opcode byte 0x7B, not registered (R170). -/
def execDefault7B (s : State) : Host.Outcome State Fault Refusal := runDefault s
/-- Opcode byte 0x7C, not registered (R170). -/
def execDefault7C (s : State) : Host.Outcome State Fault Refusal := runDefault s
/-- Opcode byte 0x7D, not registered (R170). -/
def execDefault7D (s : State) : Host.Outcome State Fault Refusal := runDefault s
/-- Opcode byte 0x7E, not registered (R170). -/
def execDefault7E (s : State) : Host.Outcome State Fault Refusal := runDefault s
/-- Opcode byte 0x7F, not registered (R170). -/
def execDefault7F (s : State) : Host.Outcome State Fault Refusal := runDefault s
/-- Opcode byte 0x80, not registered (R170). -/
def execDefault80 (s : State) : Host.Outcome State Fault Refusal := runDefault s
/-- Opcode byte 0x81, not registered (R170). -/
def execDefault81 (s : State) : Host.Outcome State Fault Refusal := runDefault s
/-- Opcode byte 0x82, not registered (R170). -/
def execDefault82 (s : State) : Host.Outcome State Fault Refusal := runDefault s
/-- Opcode byte 0x83, not registered (R170). -/
def execDefault83 (s : State) : Host.Outcome State Fault Refusal := runDefault s
/-- Opcode byte 0x84, not registered (R170). -/
def execDefault84 (s : State) : Host.Outcome State Fault Refusal := runDefault s
/-- Opcode byte 0x85, not registered (R170). -/
def execDefault85 (s : State) : Host.Outcome State Fault Refusal := runDefault s
/-- Opcode byte 0x86, not registered (R170). -/
def execDefault86 (s : State) : Host.Outcome State Fault Refusal := runDefault s
/-- Opcode byte 0x87, not registered (R170). -/
def execDefault87 (s : State) : Host.Outcome State Fault Refusal := runDefault s
/-- Opcode byte 0x88, not registered (R170). -/
def execDefault88 (s : State) : Host.Outcome State Fault Refusal := runDefault s
/-- Opcode byte 0x89, not registered (R170). -/
def execDefault89 (s : State) : Host.Outcome State Fault Refusal := runDefault s
/-- Opcode byte 0x8A, not registered (R170). -/
def execDefault8A (s : State) : Host.Outcome State Fault Refusal := runDefault s
/-- Opcode byte 0x8B, not registered (R170). -/
def execDefault8B (s : State) : Host.Outcome State Fault Refusal := runDefault s
/-- Opcode byte 0x8C, not registered (R170). -/
def execDefault8C (s : State) : Host.Outcome State Fault Refusal := runDefault s
/-- Opcode byte 0x8D, not registered (R170). -/
def execDefault8D (s : State) : Host.Outcome State Fault Refusal := runDefault s
/-- Opcode byte 0x8E, not registered (R170). -/
def execDefault8E (s : State) : Host.Outcome State Fault Refusal := runDefault s
/-- Opcode byte 0x8F, not registered (R170). -/
def execDefault8F (s : State) : Host.Outcome State Fault Refusal := runDefault s
/-- Opcode byte 0x90, not registered (R170). -/
def execDefault90 (s : State) : Host.Outcome State Fault Refusal := runDefault s
/-- Opcode byte 0x91, not registered (R170). -/
def execDefault91 (s : State) : Host.Outcome State Fault Refusal := runDefault s
/-- Opcode byte 0x92, not registered (R170). -/
def execDefault92 (s : State) : Host.Outcome State Fault Refusal := runDefault s
/-- Opcode byte 0x93, not registered (R170). -/
def execDefault93 (s : State) : Host.Outcome State Fault Refusal := runDefault s
/-- Opcode byte 0x94, not registered (R170). -/
def execDefault94 (s : State) : Host.Outcome State Fault Refusal := runDefault s
/-- Opcode byte 0x95, not registered (R170). -/
def execDefault95 (s : State) : Host.Outcome State Fault Refusal := runDefault s
/-- Opcode byte 0x96, not registered (R170). -/
def execDefault96 (s : State) : Host.Outcome State Fault Refusal := runDefault s
/-- Opcode byte 0x97, not registered (R170). -/
def execDefault97 (s : State) : Host.Outcome State Fault Refusal := runDefault s
/-- Opcode byte 0x98, not registered (R170). -/
def execDefault98 (s : State) : Host.Outcome State Fault Refusal := runDefault s
/-- Opcode byte 0x99, not registered (R170). -/
def execDefault99 (s : State) : Host.Outcome State Fault Refusal := runDefault s
/-- Opcode byte 0x9A, not registered (R170). -/
def execDefault9A (s : State) : Host.Outcome State Fault Refusal := runDefault s
/-- Opcode byte 0x9B, not registered (R170). -/
def execDefault9B (s : State) : Host.Outcome State Fault Refusal := runDefault s
/-- Opcode byte 0x9C, not registered (R170). -/
def execDefault9C (s : State) : Host.Outcome State Fault Refusal := runDefault s
/-- Opcode byte 0x9D, not registered (R170). -/
def execDefault9D (s : State) : Host.Outcome State Fault Refusal := runDefault s
/-- Opcode byte 0x9E, not registered (R170). -/
def execDefault9E (s : State) : Host.Outcome State Fault Refusal := runDefault s
/-- Opcode byte 0x9F, not registered (R170). -/
def execDefault9F (s : State) : Host.Outcome State Fault Refusal := runDefault s
/-- Opcode byte 0xA1, not registered (R170). -/
def execDefaultA1 (s : State) : Host.Outcome State Fault Refusal := runDefault s
/-- Opcode byte 0xA3, not registered (R170). -/
def execDefaultA3 (s : State) : Host.Outcome State Fault Refusal := runDefault s
/-- Opcode byte 0xA4, not registered (R170). -/
def execDefaultA4 (s : State) : Host.Outcome State Fault Refusal := runDefault s
/-- Opcode byte 0xA5, not registered (R170). -/
def execDefaultA5 (s : State) : Host.Outcome State Fault Refusal := runDefault s
/-- Opcode byte 0xA6, not registered (R170). -/
def execDefaultA6 (s : State) : Host.Outcome State Fault Refusal := runDefault s
/-- Opcode byte 0xA7, not registered (R170). -/
def execDefaultA7 (s : State) : Host.Outcome State Fault Refusal := runDefault s
/-- Opcode byte 0xA8, not registered (R170). -/
def execDefaultA8 (s : State) : Host.Outcome State Fault Refusal := runDefault s
/-- Opcode byte 0xAA, not registered (R170). -/
def execDefaultAA (s : State) : Host.Outcome State Fault Refusal := runDefault s
/-- Opcode byte 0xAB, not registered (R170). -/
def execDefaultAB (s : State) : Host.Outcome State Fault Refusal := runDefault s
/-- Opcode byte 0xAC, not registered (R170). -/
def execDefaultAC (s : State) : Host.Outcome State Fault Refusal := runDefault s
/-- Opcode byte 0xAD, not registered (R170). -/
def execDefaultAD (s : State) : Host.Outcome State Fault Refusal := runDefault s
/-- Opcode byte 0xAE, not registered (R170). -/
def execDefaultAE (s : State) : Host.Outcome State Fault Refusal := runDefault s
/-- Opcode byte 0xAF, not registered (R170). -/
def execDefaultAF (s : State) : Host.Outcome State Fault Refusal := runDefault s
/-- Opcode byte 0xB0, not registered (R170). -/
def execDefaultB0 (s : State) : Host.Outcome State Fault Refusal := runDefault s
/-- Opcode byte 0xB1, not registered (R170). -/
def execDefaultB1 (s : State) : Host.Outcome State Fault Refusal := runDefault s
/-- Opcode byte 0xB2, not registered (R170). -/
def execDefaultB2 (s : State) : Host.Outcome State Fault Refusal := runDefault s
/-- Opcode byte 0xB3, not registered (R170). -/
def execDefaultB3 (s : State) : Host.Outcome State Fault Refusal := runDefault s
/-- Opcode byte 0xB4, not registered (R170). -/
def execDefaultB4 (s : State) : Host.Outcome State Fault Refusal := runDefault s
/-- Opcode byte 0xB5, not registered (R170). -/
def execDefaultB5 (s : State) : Host.Outcome State Fault Refusal := runDefault s
/-- Opcode byte 0xB6, not registered (R170). -/
def execDefaultB6 (s : State) : Host.Outcome State Fault Refusal := runDefault s
/-- Opcode byte 0xB7, not registered (R170). -/
def execDefaultB7 (s : State) : Host.Outcome State Fault Refusal := runDefault s
/-- Opcode byte 0xB8, not registered (R170). -/
def execDefaultB8 (s : State) : Host.Outcome State Fault Refusal := runDefault s
/-- Opcode byte 0xB9, not registered (R170). -/
def execDefaultB9 (s : State) : Host.Outcome State Fault Refusal := runDefault s
/-- Opcode byte 0xBA, not registered (R170). -/
def execDefaultBA (s : State) : Host.Outcome State Fault Refusal := runDefault s
/-- Opcode byte 0xBB, not registered (R170). -/
def execDefaultBB (s : State) : Host.Outcome State Fault Refusal := runDefault s
/-- Opcode byte 0xBC, not registered (R170). -/
def execDefaultBC (s : State) : Host.Outcome State Fault Refusal := runDefault s
/-- Opcode byte 0xBD, not registered (R170). -/
def execDefaultBD (s : State) : Host.Outcome State Fault Refusal := runDefault s
/-- Opcode byte 0xBE, not registered (R170). -/
def execDefaultBE (s : State) : Host.Outcome State Fault Refusal := runDefault s
/-- Opcode byte 0xBF, not registered (R170). -/
def execDefaultBF (s : State) : Host.Outcome State Fault Refusal := runDefault s
/-- Opcode byte 0xC0, not registered (R170). -/
def execDefaultC0 (s : State) : Host.Outcome State Fault Refusal := runDefault s
/-- Opcode byte 0xC1, not registered (R170). -/
def execDefaultC1 (s : State) : Host.Outcome State Fault Refusal := runDefault s
/-- Opcode byte 0xC2, not registered (R170). -/
def execDefaultC2 (s : State) : Host.Outcome State Fault Refusal := runDefault s
/-- Opcode byte 0xC3, not registered (R170). -/
def execDefaultC3 (s : State) : Host.Outcome State Fault Refusal := runDefault s
/-- Opcode byte 0xC4, not registered (R170). -/
def execDefaultC4 (s : State) : Host.Outcome State Fault Refusal := runDefault s
/-- Opcode byte 0xC5, not registered (R170). -/
def execDefaultC5 (s : State) : Host.Outcome State Fault Refusal := runDefault s
/-- Opcode byte 0xC6, not registered (R170). -/
def execDefaultC6 (s : State) : Host.Outcome State Fault Refusal := runDefault s
/-- Opcode byte 0xC7, not registered (R170). -/
def execDefaultC7 (s : State) : Host.Outcome State Fault Refusal := runDefault s
/-- Opcode byte 0xC8, not registered (R170). -/
def execDefaultC8 (s : State) : Host.Outcome State Fault Refusal := runDefault s
/-- Opcode byte 0xC9, not registered (R170). -/
def execDefaultC9 (s : State) : Host.Outcome State Fault Refusal := runDefault s
/-- Opcode byte 0xCA, not registered (R170). -/
def execDefaultCA (s : State) : Host.Outcome State Fault Refusal := runDefault s
/-- Opcode byte 0xCB, not registered (R170). -/
def execDefaultCB (s : State) : Host.Outcome State Fault Refusal := runDefault s
/-- Opcode byte 0xCC, not registered (R170). -/
def execDefaultCC (s : State) : Host.Outcome State Fault Refusal := runDefault s
/-- Opcode byte 0xCD, not registered (R170). -/
def execDefaultCD (s : State) : Host.Outcome State Fault Refusal := runDefault s
/-- Opcode byte 0xCE, not registered (R170). -/
def execDefaultCE (s : State) : Host.Outcome State Fault Refusal := runDefault s
/-- Opcode byte 0xCF, not registered (R170). -/
def execDefaultCF (s : State) : Host.Outcome State Fault Refusal := runDefault s
/-- Opcode byte 0xD0, not registered (R170). -/
def execDefaultD0 (s : State) : Host.Outcome State Fault Refusal := runDefault s
/-- Opcode byte 0xD1, not registered (R170). -/
def execDefaultD1 (s : State) : Host.Outcome State Fault Refusal := runDefault s
/-- Opcode byte 0xD2, not registered (R170). -/
def execDefaultD2 (s : State) : Host.Outcome State Fault Refusal := runDefault s
/-- Opcode byte 0xD3, not registered (R170). -/
def execDefaultD3 (s : State) : Host.Outcome State Fault Refusal := runDefault s
/-- Opcode byte 0xD4, not registered (R170). -/
def execDefaultD4 (s : State) : Host.Outcome State Fault Refusal := runDefault s
/-- Opcode byte 0xD5, not registered (R170). -/
def execDefaultD5 (s : State) : Host.Outcome State Fault Refusal := runDefault s
/-- Opcode byte 0xD6, not registered (R170). -/
def execDefaultD6 (s : State) : Host.Outcome State Fault Refusal := runDefault s
/-- Opcode byte 0xD7, not registered (R170). -/
def execDefaultD7 (s : State) : Host.Outcome State Fault Refusal := runDefault s
/-- Opcode byte 0xD8, not registered (R170). -/
def execDefaultD8 (s : State) : Host.Outcome State Fault Refusal := runDefault s
/-- Opcode byte 0xD9, not registered (R170). -/
def execDefaultD9 (s : State) : Host.Outcome State Fault Refusal := runDefault s
/-- Opcode byte 0xDA, not registered (R170). -/
def execDefaultDA (s : State) : Host.Outcome State Fault Refusal := runDefault s
/-- Opcode byte 0xDB, not registered (R170). -/
def execDefaultDB (s : State) : Host.Outcome State Fault Refusal := runDefault s
/-- Opcode byte 0xDC, not registered (R170). -/
def execDefaultDC (s : State) : Host.Outcome State Fault Refusal := runDefault s
/-- Opcode byte 0xDD, not registered (R170). -/
def execDefaultDD (s : State) : Host.Outcome State Fault Refusal := runDefault s
/-- Opcode byte 0xDE, not registered (R170). -/
def execDefaultDE (s : State) : Host.Outcome State Fault Refusal := runDefault s
/-- Opcode byte 0xDF, not registered (R170). -/
def execDefaultDF (s : State) : Host.Outcome State Fault Refusal := runDefault s
/-- Opcode byte 0xE0, not registered (R170). -/
def execDefaultE0 (s : State) : Host.Outcome State Fault Refusal := runDefault s
/-- Opcode byte 0xE1, not registered (R170). -/
def execDefaultE1 (s : State) : Host.Outcome State Fault Refusal := runDefault s
/-- Opcode byte 0xE2, not registered (R170). -/
def execDefaultE2 (s : State) : Host.Outcome State Fault Refusal := runDefault s
/-- Opcode byte 0xE3, not registered (R170). -/
def execDefaultE3 (s : State) : Host.Outcome State Fault Refusal := runDefault s
/-- Opcode byte 0xE4, not registered (R170). -/
def execDefaultE4 (s : State) : Host.Outcome State Fault Refusal := runDefault s
/-- Opcode byte 0xE5, not registered (R170). -/
def execDefaultE5 (s : State) : Host.Outcome State Fault Refusal := runDefault s
/-- Opcode byte 0xE6, not registered (R170). -/
def execDefaultE6 (s : State) : Host.Outcome State Fault Refusal := runDefault s
/-- Opcode byte 0xE7, not registered (R170). -/
def execDefaultE7 (s : State) : Host.Outcome State Fault Refusal := runDefault s
/-- Opcode byte 0xE8, not registered (R170). -/
def execDefaultE8 (s : State) : Host.Outcome State Fault Refusal := runDefault s
/-- Opcode byte 0xE9, not registered (R170). -/
def execDefaultE9 (s : State) : Host.Outcome State Fault Refusal := runDefault s
/-- Opcode byte 0xEB, not registered (R170). -/
def execDefaultEB (s : State) : Host.Outcome State Fault Refusal := runDefault s
/-- Opcode byte 0xEC, not registered (R170). -/
def execDefaultEC (s : State) : Host.Outcome State Fault Refusal := runDefault s
/-- Opcode byte 0xED, not registered (R170). -/
def execDefaultED (s : State) : Host.Outcome State Fault Refusal := runDefault s
/-- Opcode byte 0xEE, not registered (R170). -/
def execDefaultEE (s : State) : Host.Outcome State Fault Refusal := runDefault s
/-- Opcode byte 0xEF, not registered (R170). -/
def execDefaultEF (s : State) : Host.Outcome State Fault Refusal := runDefault s
/-- Opcode byte 0xF0, not registered (R170). -/
def execDefaultF0 (s : State) : Host.Outcome State Fault Refusal := runDefault s
/-- Opcode byte 0xF1, not registered (R170). -/
def execDefaultF1 (s : State) : Host.Outcome State Fault Refusal := runDefault s
/-- Opcode byte 0xF2, not registered (R170). -/
def execDefaultF2 (s : State) : Host.Outcome State Fault Refusal := runDefault s
/-- Opcode byte 0xF3, not registered (R170). -/
def execDefaultF3 (s : State) : Host.Outcome State Fault Refusal := runDefault s
/-- Opcode byte 0xF4, not registered (R170). -/
def execDefaultF4 (s : State) : Host.Outcome State Fault Refusal := runDefault s
/-- Opcode byte 0xF5, not registered (R170). -/
def execDefaultF5 (s : State) : Host.Outcome State Fault Refusal := runDefault s
/-- Opcode byte 0xF6, not registered (R170). -/
def execDefaultF6 (s : State) : Host.Outcome State Fault Refusal := runDefault s
/-- Opcode byte 0xF7, not registered (R170). -/
def execDefaultF7 (s : State) : Host.Outcome State Fault Refusal := runDefault s
/-- Opcode byte 0xF8, not registered (R170). -/
def execDefaultF8 (s : State) : Host.Outcome State Fault Refusal := runDefault s
/-- Opcode byte 0xF9, not registered (R170). -/
def execDefaultF9 (s : State) : Host.Outcome State Fault Refusal := runDefault s
/-- Opcode byte 0xFA, not registered (R170). -/
def execDefaultFA (s : State) : Host.Outcome State Fault Refusal := runDefault s
/-- Opcode byte 0xFB, not registered (R170). -/
def execDefaultFB (s : State) : Host.Outcome State Fault Refusal := runDefault s
/-- Opcode byte 0xFC, not registered (R170). -/
def execDefaultFC (s : State) : Host.Outcome State Fault Refusal := runDefault s
/-- Opcode byte 0xFD, not registered (R170). -/
def execDefaultFD (s : State) : Host.Outcome State Fault Refusal := runDefault s
/-- Opcode byte 0xFE, not registered (R170). -/
def execDefaultFE (s : State) : Host.Outcome State Fault Refusal := runDefault s
/-- Opcode byte 0xFF, not registered (R170). -/
def execDefaultFF (s : State) : Host.Outcome State Fault Refusal := runDefault s

end Sys2Proof.Machine
end

