-- ==== Sys2Proof/Machine/Implied.lean ====
section
/-! DEFINITION. The implied instructions NOP, CLC and SEC (41_flags_and_nop.md). Each meaning is the whole step of its
rule: the opcode fetch, the handler, the table's cost (log 6). -/

namespace Sys2Proof.Machine

/-- NOP (R140): no effect but PC and CYC. -/
def execNop (s : State) : Host.Outcome State Fault Refusal :=
  .next ((s.advancePc 1).addCycles 2)

/-- CLC (R141): P.C <- 0. -/
def execClc (s : State) : Host.Outcome State Fault Refusal :=
  .next (((s.advancePc 1).setP (setFlag s.p .c false)).addCycles 2)

/-- SEC (R142): P.C <- 1. -/
def execSec (s : State) : Host.Outcome State Fault Refusal :=
  .next (((s.advancePc 1).setP (setFlag s.p .c true)).addCycles 2)

end Sys2Proof.Machine
end

