-- ==== Sys2Proof/Machine/Jump.lean ====
section
/-! DEFINITION. The control transfer JMP abs (43_jump.md). -/

namespace Sys2Proof.Machine

/-- JMP abs (R160), the whole step: the three bytes are fetched, PC is overwritten by the target, PB stays, cost 3. -/
def execJmpAbs (addr16 : Word) (s : State) : Host.Outcome State Fault Refusal :=
  .next (((s.advancePc 3).setPc (jumpTarget addr16)).addCycles 3)

end Sys2Proof.Machine
end

