-- ==== Sys2Proof/Machine/Loads.lean ====
section
/-! DEFINITION. The immediate loads LDA #, LDX # and LDY # (42_immediate_loads.md). Each meaning is the whole step of
its rule (log 6). The operand is one byte and the flags are computed over 8 bits whatever P.M, P.X and E hold (R151,
log 12). -/

namespace Sys2Proof.Machine

/-- LDA # (R150): A <- zext_16(v), set_nz(v). -/
def execLdaImm (imm8 : Byte) (s : State) : Host.Outcome State Fault Refusal :=
  .next ((((s.advancePc 2).setA (immValue imm8)).setP (setNz s.p imm8)).addCycles 2)

/-- LDX # (R152): X <- zext_16(v), set_nz(v). -/
def execLdxImm (imm8 : Byte) (s : State) : Host.Outcome State Fault Refusal :=
  .next ((((s.advancePc 2).setX (immValue imm8)).setP (setNz s.p imm8)).addCycles 2)

/-- LDY # (R154): Y <- zext_16(v), set_nz(v). -/
def execLdyImm (imm8 : Byte) (s : State) : Host.Outcome State Fault Refusal :=
  .next ((((s.advancePc 2).setY (immValue imm8)).setP (setNz s.p imm8)).addCycles 2)

end Sys2Proof.Machine
end

