-- ==== Sys2Proof/Machine/Dispatch.lean ====
section
/-! DEFINITION. The dispatch: one arm per instruction, each a direct call of its meaning. -/

namespace Sys2Proof.Machine

-- The dispatch table of R121: each opcode's handler and cost stand in its meaning.
def exec (i : Instr) (s : State) : Host.Outcome State Fault Refusal :=
  match i with
  | .nop => Sys2Proof.Machine.execNop s
  | .clc => Sys2Proof.Machine.execClc s
  | .sec => Sys2Proof.Machine.execSec s
  | .ldaImm imm8 => Sys2Proof.Machine.execLdaImm imm8 s
  | .ldxImm imm8 => Sys2Proof.Machine.execLdxImm imm8 s
  | .ldyImm imm8 => Sys2Proof.Machine.execLdyImm imm8 s
  | .jmpAbs addr16 => Sys2Proof.Machine.execJmpAbs addr16 s
  | .default00 => Sys2Proof.Machine.execDefault00 s
  | .default01 => Sys2Proof.Machine.execDefault01 s
  | .default02 => Sys2Proof.Machine.execDefault02 s
  | .default03 => Sys2Proof.Machine.execDefault03 s
  | .default04 => Sys2Proof.Machine.execDefault04 s
  | .default05 => Sys2Proof.Machine.execDefault05 s
  | .default06 => Sys2Proof.Machine.execDefault06 s
  | .default07 => Sys2Proof.Machine.execDefault07 s
  | .default08 => Sys2Proof.Machine.execDefault08 s
  | .default09 => Sys2Proof.Machine.execDefault09 s
  | .default0A => Sys2Proof.Machine.execDefault0A s
  | .default0B => Sys2Proof.Machine.execDefault0B s
  | .default0C => Sys2Proof.Machine.execDefault0C s
  | .default0D => Sys2Proof.Machine.execDefault0D s
  | .default0E => Sys2Proof.Machine.execDefault0E s
  | .default0F => Sys2Proof.Machine.execDefault0F s
  | .default10 => Sys2Proof.Machine.execDefault10 s
  | .default11 => Sys2Proof.Machine.execDefault11 s
  | .default12 => Sys2Proof.Machine.execDefault12 s
  | .default13 => Sys2Proof.Machine.execDefault13 s
  | .default14 => Sys2Proof.Machine.execDefault14 s
  | .default15 => Sys2Proof.Machine.execDefault15 s
  | .default16 => Sys2Proof.Machine.execDefault16 s
  | .default17 => Sys2Proof.Machine.execDefault17 s
  | .default19 => Sys2Proof.Machine.execDefault19 s
  | .default1A => Sys2Proof.Machine.execDefault1A s
  | .default1B => Sys2Proof.Machine.execDefault1B s
  | .default1C => Sys2Proof.Machine.execDefault1C s
  | .default1D => Sys2Proof.Machine.execDefault1D s
  | .default1E => Sys2Proof.Machine.execDefault1E s
  | .default1F => Sys2Proof.Machine.execDefault1F s
  | .default20 => Sys2Proof.Machine.execDefault20 s
  | .default21 => Sys2Proof.Machine.execDefault21 s
  | .default22 => Sys2Proof.Machine.execDefault22 s
  | .default23 => Sys2Proof.Machine.execDefault23 s
  | .default24 => Sys2Proof.Machine.execDefault24 s
  | .default25 => Sys2Proof.Machine.execDefault25 s
  | .default26 => Sys2Proof.Machine.execDefault26 s
  | .default27 => Sys2Proof.Machine.execDefault27 s
  | .default28 => Sys2Proof.Machine.execDefault28 s
  | .default29 => Sys2Proof.Machine.execDefault29 s
  | .default2A => Sys2Proof.Machine.execDefault2A s
  | .default2B => Sys2Proof.Machine.execDefault2B s
  | .default2C => Sys2Proof.Machine.execDefault2C s
  | .default2D => Sys2Proof.Machine.execDefault2D s
  | .default2E => Sys2Proof.Machine.execDefault2E s
  | .default2F => Sys2Proof.Machine.execDefault2F s
  | .default30 => Sys2Proof.Machine.execDefault30 s
  | .default31 => Sys2Proof.Machine.execDefault31 s
  | .default32 => Sys2Proof.Machine.execDefault32 s
  | .default33 => Sys2Proof.Machine.execDefault33 s
  | .default34 => Sys2Proof.Machine.execDefault34 s
  | .default35 => Sys2Proof.Machine.execDefault35 s
  | .default36 => Sys2Proof.Machine.execDefault36 s
  | .default37 => Sys2Proof.Machine.execDefault37 s
  | .default39 => Sys2Proof.Machine.execDefault39 s
  | .default3A => Sys2Proof.Machine.execDefault3A s
  | .default3B => Sys2Proof.Machine.execDefault3B s
  | .default3C => Sys2Proof.Machine.execDefault3C s
  | .default3D => Sys2Proof.Machine.execDefault3D s
  | .default3E => Sys2Proof.Machine.execDefault3E s
  | .default3F => Sys2Proof.Machine.execDefault3F s
  | .default40 => Sys2Proof.Machine.execDefault40 s
  | .default41 => Sys2Proof.Machine.execDefault41 s
  | .default42 => Sys2Proof.Machine.execDefault42 s
  | .default43 => Sys2Proof.Machine.execDefault43 s
  | .default44 => Sys2Proof.Machine.execDefault44 s
  | .default45 => Sys2Proof.Machine.execDefault45 s
  | .default46 => Sys2Proof.Machine.execDefault46 s
  | .default47 => Sys2Proof.Machine.execDefault47 s
  | .default48 => Sys2Proof.Machine.execDefault48 s
  | .default49 => Sys2Proof.Machine.execDefault49 s
  | .default4A => Sys2Proof.Machine.execDefault4A s
  | .default4B => Sys2Proof.Machine.execDefault4B s
  | .default4D => Sys2Proof.Machine.execDefault4D s
  | .default4E => Sys2Proof.Machine.execDefault4E s
  | .default4F => Sys2Proof.Machine.execDefault4F s
  | .default50 => Sys2Proof.Machine.execDefault50 s
  | .default51 => Sys2Proof.Machine.execDefault51 s
  | .default52 => Sys2Proof.Machine.execDefault52 s
  | .default53 => Sys2Proof.Machine.execDefault53 s
  | .default54 => Sys2Proof.Machine.execDefault54 s
  | .default55 => Sys2Proof.Machine.execDefault55 s
  | .default56 => Sys2Proof.Machine.execDefault56 s
  | .default57 => Sys2Proof.Machine.execDefault57 s
  | .default58 => Sys2Proof.Machine.execDefault58 s
  | .default59 => Sys2Proof.Machine.execDefault59 s
  | .default5A => Sys2Proof.Machine.execDefault5A s
  | .default5B => Sys2Proof.Machine.execDefault5B s
  | .default5C => Sys2Proof.Machine.execDefault5C s
  | .default5D => Sys2Proof.Machine.execDefault5D s
  | .default5E => Sys2Proof.Machine.execDefault5E s
  | .default5F => Sys2Proof.Machine.execDefault5F s
  | .default60 => Sys2Proof.Machine.execDefault60 s
  | .default61 => Sys2Proof.Machine.execDefault61 s
  | .default62 => Sys2Proof.Machine.execDefault62 s
  | .default63 => Sys2Proof.Machine.execDefault63 s
  | .default64 => Sys2Proof.Machine.execDefault64 s
  | .default65 => Sys2Proof.Machine.execDefault65 s
  | .default66 => Sys2Proof.Machine.execDefault66 s
  | .default67 => Sys2Proof.Machine.execDefault67 s
  | .default68 => Sys2Proof.Machine.execDefault68 s
  | .default69 => Sys2Proof.Machine.execDefault69 s
  | .default6A => Sys2Proof.Machine.execDefault6A s
  | .default6B => Sys2Proof.Machine.execDefault6B s
  | .default6C => Sys2Proof.Machine.execDefault6C s
  | .default6D => Sys2Proof.Machine.execDefault6D s
  | .default6E => Sys2Proof.Machine.execDefault6E s
  | .default6F => Sys2Proof.Machine.execDefault6F s
  | .default70 => Sys2Proof.Machine.execDefault70 s
  | .default71 => Sys2Proof.Machine.execDefault71 s
  | .default72 => Sys2Proof.Machine.execDefault72 s
  | .default73 => Sys2Proof.Machine.execDefault73 s
  | .default74 => Sys2Proof.Machine.execDefault74 s
  | .default75 => Sys2Proof.Machine.execDefault75 s
  | .default76 => Sys2Proof.Machine.execDefault76 s
  | .default77 => Sys2Proof.Machine.execDefault77 s
  | .default78 => Sys2Proof.Machine.execDefault78 s
  | .default79 => Sys2Proof.Machine.execDefault79 s
  | .default7A => Sys2Proof.Machine.execDefault7A s
  | .default7B => Sys2Proof.Machine.execDefault7B s
  | .default7C => Sys2Proof.Machine.execDefault7C s
  | .default7D => Sys2Proof.Machine.execDefault7D s
  | .default7E => Sys2Proof.Machine.execDefault7E s
  | .default7F => Sys2Proof.Machine.execDefault7F s
  | .default80 => Sys2Proof.Machine.execDefault80 s
  | .default81 => Sys2Proof.Machine.execDefault81 s
  | .default82 => Sys2Proof.Machine.execDefault82 s
  | .default83 => Sys2Proof.Machine.execDefault83 s
  | .default84 => Sys2Proof.Machine.execDefault84 s
  | .default85 => Sys2Proof.Machine.execDefault85 s
  | .default86 => Sys2Proof.Machine.execDefault86 s
  | .default87 => Sys2Proof.Machine.execDefault87 s
  | .default88 => Sys2Proof.Machine.execDefault88 s
  | .default89 => Sys2Proof.Machine.execDefault89 s
  | .default8A => Sys2Proof.Machine.execDefault8A s
  | .default8B => Sys2Proof.Machine.execDefault8B s
  | .default8C => Sys2Proof.Machine.execDefault8C s
  | .default8D => Sys2Proof.Machine.execDefault8D s
  | .default8E => Sys2Proof.Machine.execDefault8E s
  | .default8F => Sys2Proof.Machine.execDefault8F s
  | .default90 => Sys2Proof.Machine.execDefault90 s
  | .default91 => Sys2Proof.Machine.execDefault91 s
  | .default92 => Sys2Proof.Machine.execDefault92 s
  | .default93 => Sys2Proof.Machine.execDefault93 s
  | .default94 => Sys2Proof.Machine.execDefault94 s
  | .default95 => Sys2Proof.Machine.execDefault95 s
  | .default96 => Sys2Proof.Machine.execDefault96 s
  | .default97 => Sys2Proof.Machine.execDefault97 s
  | .default98 => Sys2Proof.Machine.execDefault98 s
  | .default99 => Sys2Proof.Machine.execDefault99 s
  | .default9A => Sys2Proof.Machine.execDefault9A s
  | .default9B => Sys2Proof.Machine.execDefault9B s
  | .default9C => Sys2Proof.Machine.execDefault9C s
  | .default9D => Sys2Proof.Machine.execDefault9D s
  | .default9E => Sys2Proof.Machine.execDefault9E s
  | .default9F => Sys2Proof.Machine.execDefault9F s
  | .defaultA1 => Sys2Proof.Machine.execDefaultA1 s
  | .defaultA3 => Sys2Proof.Machine.execDefaultA3 s
  | .defaultA4 => Sys2Proof.Machine.execDefaultA4 s
  | .defaultA5 => Sys2Proof.Machine.execDefaultA5 s
  | .defaultA6 => Sys2Proof.Machine.execDefaultA6 s
  | .defaultA7 => Sys2Proof.Machine.execDefaultA7 s
  | .defaultA8 => Sys2Proof.Machine.execDefaultA8 s
  | .defaultAA => Sys2Proof.Machine.execDefaultAA s
  | .defaultAB => Sys2Proof.Machine.execDefaultAB s
  | .defaultAC => Sys2Proof.Machine.execDefaultAC s
  | .defaultAD => Sys2Proof.Machine.execDefaultAD s
  | .defaultAE => Sys2Proof.Machine.execDefaultAE s
  | .defaultAF => Sys2Proof.Machine.execDefaultAF s
  | .defaultB0 => Sys2Proof.Machine.execDefaultB0 s
  | .defaultB1 => Sys2Proof.Machine.execDefaultB1 s
  | .defaultB2 => Sys2Proof.Machine.execDefaultB2 s
  | .defaultB3 => Sys2Proof.Machine.execDefaultB3 s
  | .defaultB4 => Sys2Proof.Machine.execDefaultB4 s
  | .defaultB5 => Sys2Proof.Machine.execDefaultB5 s
  | .defaultB6 => Sys2Proof.Machine.execDefaultB6 s
  | .defaultB7 => Sys2Proof.Machine.execDefaultB7 s
  | .defaultB8 => Sys2Proof.Machine.execDefaultB8 s
  | .defaultB9 => Sys2Proof.Machine.execDefaultB9 s
  | .defaultBA => Sys2Proof.Machine.execDefaultBA s
  | .defaultBB => Sys2Proof.Machine.execDefaultBB s
  | .defaultBC => Sys2Proof.Machine.execDefaultBC s
  | .defaultBD => Sys2Proof.Machine.execDefaultBD s
  | .defaultBE => Sys2Proof.Machine.execDefaultBE s
  | .defaultBF => Sys2Proof.Machine.execDefaultBF s
  | .defaultC0 => Sys2Proof.Machine.execDefaultC0 s
  | .defaultC1 => Sys2Proof.Machine.execDefaultC1 s
  | .defaultC2 => Sys2Proof.Machine.execDefaultC2 s
  | .defaultC3 => Sys2Proof.Machine.execDefaultC3 s
  | .defaultC4 => Sys2Proof.Machine.execDefaultC4 s
  | .defaultC5 => Sys2Proof.Machine.execDefaultC5 s
  | .defaultC6 => Sys2Proof.Machine.execDefaultC6 s
  | .defaultC7 => Sys2Proof.Machine.execDefaultC7 s
  | .defaultC8 => Sys2Proof.Machine.execDefaultC8 s
  | .defaultC9 => Sys2Proof.Machine.execDefaultC9 s
  | .defaultCA => Sys2Proof.Machine.execDefaultCA s
  | .defaultCB => Sys2Proof.Machine.execDefaultCB s
  | .defaultCC => Sys2Proof.Machine.execDefaultCC s
  | .defaultCD => Sys2Proof.Machine.execDefaultCD s
  | .defaultCE => Sys2Proof.Machine.execDefaultCE s
  | .defaultCF => Sys2Proof.Machine.execDefaultCF s
  | .defaultD0 => Sys2Proof.Machine.execDefaultD0 s
  | .defaultD1 => Sys2Proof.Machine.execDefaultD1 s
  | .defaultD2 => Sys2Proof.Machine.execDefaultD2 s
  | .defaultD3 => Sys2Proof.Machine.execDefaultD3 s
  | .defaultD4 => Sys2Proof.Machine.execDefaultD4 s
  | .defaultD5 => Sys2Proof.Machine.execDefaultD5 s
  | .defaultD6 => Sys2Proof.Machine.execDefaultD6 s
  | .defaultD7 => Sys2Proof.Machine.execDefaultD7 s
  | .defaultD8 => Sys2Proof.Machine.execDefaultD8 s
  | .defaultD9 => Sys2Proof.Machine.execDefaultD9 s
  | .defaultDA => Sys2Proof.Machine.execDefaultDA s
  | .defaultDB => Sys2Proof.Machine.execDefaultDB s
  | .defaultDC => Sys2Proof.Machine.execDefaultDC s
  | .defaultDD => Sys2Proof.Machine.execDefaultDD s
  | .defaultDE => Sys2Proof.Machine.execDefaultDE s
  | .defaultDF => Sys2Proof.Machine.execDefaultDF s
  | .defaultE0 => Sys2Proof.Machine.execDefaultE0 s
  | .defaultE1 => Sys2Proof.Machine.execDefaultE1 s
  | .defaultE2 => Sys2Proof.Machine.execDefaultE2 s
  | .defaultE3 => Sys2Proof.Machine.execDefaultE3 s
  | .defaultE4 => Sys2Proof.Machine.execDefaultE4 s
  | .defaultE5 => Sys2Proof.Machine.execDefaultE5 s
  | .defaultE6 => Sys2Proof.Machine.execDefaultE6 s
  | .defaultE7 => Sys2Proof.Machine.execDefaultE7 s
  | .defaultE8 => Sys2Proof.Machine.execDefaultE8 s
  | .defaultE9 => Sys2Proof.Machine.execDefaultE9 s
  | .defaultEB => Sys2Proof.Machine.execDefaultEB s
  | .defaultEC => Sys2Proof.Machine.execDefaultEC s
  | .defaultED => Sys2Proof.Machine.execDefaultED s
  | .defaultEE => Sys2Proof.Machine.execDefaultEE s
  | .defaultEF => Sys2Proof.Machine.execDefaultEF s
  | .defaultF0 => Sys2Proof.Machine.execDefaultF0 s
  | .defaultF1 => Sys2Proof.Machine.execDefaultF1 s
  | .defaultF2 => Sys2Proof.Machine.execDefaultF2 s
  | .defaultF3 => Sys2Proof.Machine.execDefaultF3 s
  | .defaultF4 => Sys2Proof.Machine.execDefaultF4 s
  | .defaultF5 => Sys2Proof.Machine.execDefaultF5 s
  | .defaultF6 => Sys2Proof.Machine.execDefaultF6 s
  | .defaultF7 => Sys2Proof.Machine.execDefaultF7 s
  | .defaultF8 => Sys2Proof.Machine.execDefaultF8 s
  | .defaultF9 => Sys2Proof.Machine.execDefaultF9 s
  | .defaultFA => Sys2Proof.Machine.execDefaultFA s
  | .defaultFB => Sys2Proof.Machine.execDefaultFB s
  | .defaultFC => Sys2Proof.Machine.execDefaultFC s
  | .defaultFD => Sys2Proof.Machine.execDefaultFD s
  | .defaultFE => Sys2Proof.Machine.execDefaultFE s
  | .defaultFF => Sys2Proof.Machine.execDefaultFF s

end Sys2Proof.Machine
end

