-- ==== Sys2Proof/Machine/Step.lean ====
section
/-! DEFINITION. One step of the machine: CpuStep (40_dispatch.md R123). -/

namespace Sys2Proof.Machine

/-- CpuStep (R123): no effect at all when no ROM is loaded (R124), else the instruction at PC is run. -/
def step (s : State) : Host.Outcome State Fault Refusal :=
  if s.romLoaded then exec s.fetchInstr s else .next s

/-- `s` with the instruction of a table word where the next step fetches it (log 4). -/
def State.withFetchWord (s : State) (nbits w : Nat) : State :=
  let bytes := tableBytes nbits w
  s.placeInstr (bytes.getD 0 0) (bytes.getD 1 0) (bytes.getD 2 0)

end Sys2Proof.Machine
end

