-- ==== Sys2Proof/Machine/Pseudocode.lean ====
section
/-! DEFINITION. CpuStep as the spec's own pseudocode writes it (R12, R121 to R123, and the handlers of files 41 to 44),
byte by byte and keyed by the opcode byte, without the instruction type. Nothing of the model calls it: it is what
`step` is claimed to be equal to. -/

namespace Sys2Proof.Machine

/-- The handler LDA # (R150). -/
def handlerLdaImm (s : State) : State :=
  let (v, s1) := s.fetch8
  { s1 with a := immValue v, p := setNz s1.p v }

/-- The handler LDX # (R152). -/
def handlerLdxImm (s : State) : State :=
  let (v, s1) := s.fetch8
  { s1 with x := immValue v, p := setNz s1.p v }

/-- The handler LDY # (R154). -/
def handlerLdyImm (s : State) : State :=
  let (v, s1) := s.fetch8
  { s1 with y := immValue v, p := setNz s1.p v }

/-- The handler JMP abs (R160). -/
def handlerJmpAbs (s : State) : State :=
  let (lo, s1) := s.fetch8
  let (hi, s2) := s1.fetch8
  { s2 with pc := joinBytes lo hi }

/-- The dispatch table (R121): an opcode byte's handler and base cost. -/
def dispatchTable (op : Byte) : (State → State) × Nat :=
  if op = 0xEA then (id, 2)
  else if op = 0x18 then (fun s => { s with p := setFlag s.p .c false }, 2)
  else if op = 0x38 then (fun s => { s with p := setFlag s.p .c true }, 2)
  else if op = 0xA9 then (handlerLdaImm, 2)
  else if op = 0xA2 then (handlerLdxImm, 2)
  else if op = 0xA0 then (handlerLdyImm, 2)
  else if op = 0x4C then (handlerJmpAbs, 3)
  else (id, 2)

/-- CpuStep, exactly as R123 writes it. -/
def cpuStepPseudocode (s : State) : State :=
  if s.romLoaded then
    let (op, s1) := s.fetch8
    let (handler, cost) := dispatchTable op
    (handler s1).addCycles cost
  else s

end Sys2Proof.Machine
end

