-- ==== Sys2Proof/Machine/Controller.lean ====
section
/-! DEFINITION. The controller: press, release, query and serialize (60_exceptions.md R230 to R237). -/

namespace Sys2Proof.Machine

/-- The buttons in canonical order (R49, R236). -/
def canonicalOrder : List Button :=
  [.b, .y, .select, .start, .up, .down, .left, .right, .a, .x, .l, .r]

/-- The host's name of a button (R49). -/
def Button.name : Button → String
  | .b => "b"
  | .y => "y"
  | .select => "select"
  | .start => "start"
  | .up => "up"
  | .down => "down"
  | .left => "left"
  | .right => "right"
  | .a => "a"
  | .x => "x"
  | .l => "l"
  | .r => "r"

/-- The button a name stands for, compared exactly, case included (R231, D25); none for any other name (R233). -/
def Button.ofName (name : String) : Option Button :=
  canonicalOrder.find? (fun button => button.name == name)

/-- The state of one button. -/
def Buttons.get (s : Buttons) : Button → Bool
  | .b => s.b
  | .y => s.y
  | .select => s.select
  | .start => s.start
  | .up => s.up
  | .down => s.down
  | .left => s.left
  | .right => s.right
  | .a => s.a
  | .x => s.x
  | .l => s.l
  | .r => s.r

/-- The buttons with one of them set. -/
def Buttons.set (s : Buttons) (button : Button) (pressed : Bool) : Buttons :=
  match button with
  | .b => { s with b := pressed }
  | .y => { s with y := pressed }
  | .select => { s with select := pressed }
  | .start => { s with start := pressed }
  | .up => { s with up := pressed }
  | .down => { s with down := pressed }
  | .left => { s with left := pressed }
  | .right => { s with right := pressed }
  | .a => { s with a := pressed }
  | .x => { s with x := pressed }
  | .l => { s with l := pressed }
  | .r => { s with r := pressed }

/-- The named button set, nothing for an unrecognized name (R231, R232, R233). -/
def State.setButton (s : State) (name : String) (pressed : Bool) : State :=
  match Button.ofName name with
  | some button => { s with btn := s.btn.set button pressed }
  | none => s

/-- Press (R231). -/
def State.press (s : State) (name : String) : State :=
  s.setButton name true

/-- Release (R232). -/
def State.release (s : State) (name : String) : State :=
  s.setButton name false

/-- IsPressed (R234): false for an unrecognized name (D25). -/
def State.isPressed (s : State) (name : String) : Bool :=
  match Button.ofName name with
  | some button => s.btn.get button
  | none => false

/-- Serialize (R236): the twelve buttons in canonical order, 1 for pressed, then four zero bits. -/
def State.serialize (s : State) : List Bool :=
  canonicalOrder.map s.btn.get ++ [false, false, false, false]

/-- A bit sequence as a 16-bit word, the first bit the most significant one of the sequence (R236, D25). -/
def serialWord (bits : List Bool) : Word :=
  bits.foldl (fun w bit => (w <<< 1) ||| (if bit then 1 else 0)) 0

end Sys2Proof.Machine
end

