-- ==== Sys2Proof/Machine/Ppu.lean ====
section
/-! DEFINITION. The PPU: the scanline counter and the framebuffer renderer (60_exceptions.md R210 to R219). The
operations are written over any pixel function, which the spec leaves open (R213, log 8). -/

namespace Sys2Proof.Machine

/-- The framebuffer index of a component of pixel (x, y), row-major (R216, D22). -/
def pixelIndex (x y c : Nat) : Nat :=
  (y * 256 + x) * 3 + c

/-- FB[y][x] <- the pixel (R213, R216). -/
def Memory.writePixel (fb : Memory) (x y : Nat) (v : Rgb) : Memory :=
  ((fb.write (pixelIndex x y 0) v.red).write (pixelIndex x y 1) v.green).write (pixelIndex x y 2) v.blue

/-- FB[y][x], a pixel's three bytes (R48). -/
def State.pixel (s : State) (x y : Nat) : Rgb :=
  ⟨s.fb.read (pixelIndex x y 0), s.fb.read (pixelIndex x y 1), s.fb.read (pixelIndex x y 2)⟩

/-- RenderLine (R213): the pixels of row y in the given columns. -/
def renderColumns (f : PixelFn) (y : Fin 224) : List (Fin 256) → Memory → Memory
  | [], fb => fb
  | x :: xs, fb => renderColumns f y xs (fb.writePixel x y (f x y))

/-- RenderLine (R213): the 256 pixels of row y, and nothing else. -/
def State.renderLine (s : State) (f : PixelFn) (y : Fin 224) : State :=
  { s with fb := renderColumns f y (List.finRange 256) s.fb }

/-- The scanline after a PpuStep (R211). -/
def nextScanline (y : Nat) : Nat :=
  (y + 1) % Config.scanlines

/-- PpuStep (R211): a visible line is rendered, the counter advances modulo 262, and the answer says whether this was
the frame edge (R215). -/
def State.ppuStep (s : State) (f : PixelFn) : State × Bool :=
  let rendered := if h : s.scanline < 224 then s.renderLine f ⟨s.scanline, h⟩ else s
  ({ rendered with scanline := nextScanline s.scanline }, decide (s.scanline = 261))

/-- n PpuSteps, with the number of frame edges among them (R214, R215). -/
def State.ppuSteps (f : PixelFn) : Nat → State → State × Nat
  | 0, s => (s, 0)
  | n + 1, s =>
    let one := s.ppuStep f
    let rest := State.ppuSteps f n one.1
    (rest.1, rest.2 + if one.2 then 1 else 0)

/-- ReadFramebuffer (R216): the 172032 bytes of FB in row-major order. -/
def State.framebuffer (s : State) : List Byte :=
  (List.range Config.frameBytes).map s.fb.read

end Sys2Proof.Machine
end

