-- ==== Sys2Proof/Machine/HostOps.lean ====
section
/-! DEFINITION. The host interface: the thirteen host operations (60_exceptions.md R250), each one atomic transition
from a state to a state and an output (R6), runs of them, and the driver's tick (R251). -/

namespace Sys2Proof.Machine

/-- A host operation (R250). A MemRead or MemWrite takes a host integer, of which the low 24 bits are the address
(R60, D30). -/
inductive HostOp where
  | memRead (addr : Nat)
  | memWrite (addr : Nat) (v : Byte)
  | loadRom (data : List Byte)
  | cpuReset
  | cpuStep
  | readCpu
  | ppuStep
  | readScanline
  | readFramebuffer
  | press (name : String)
  | release (name : String)
  | isPressed (name : String)
  | serialize
deriving DecidableEq, Repr

/-- What ReadCpu shows of the CPU (R250): its ten registers (R20, R40). -/
structure CpuView where
  a : Word
  x : Word
  y : Word
  sp : Word
  pc : Word
  pb : Byte
  db : Byte
  p : Byte
  e : Bool
  cyc : Nat
deriving DecidableEq, Repr

/-- The output of a host operation (R250). -/
inductive HostOutput where
  | none
  | byte (v : Byte)
  | cpu (view : CpuView)
  | frameComplete (edge : Bool)
  | scanline (line : Nat)
  | framebuffer (bytes : List Byte)
  | pressed (b : Bool)
  | bits (s : List Bool)
deriving DecidableEq, Repr

/-- ReadCpu (R250). -/
def State.cpuView (s : State) : CpuView :=
  ⟨s.a, s.x, s.y, s.sp, s.pc, s.pb, s.db, s.p, s.e, s.cyc⟩

/-- An outcome's next state with an output beside it. -/
def withOutput (r : Host.Outcome State Fault Refusal) (out : HostOutput) :
    Host.Outcome (State × HostOutput) Fault Refusal :=
  match r with
  | .next s => .next (s, out)
  | .fault f => .fault f
  | .refused r => .refused r

/-- One host operation: the state it leaves and its output (R250). -/
def perform (op : HostOp) (s : State) : Host.Outcome (State × HostOutput) Fault Refusal :=
  match op with
  | .memRead n => .next (s, .byte (s.memRead (hostAddr n)))
  | .memWrite n v => .next (s.memWrite (hostAddr n) v, .none)
  | .loadRom data => .next (s.loadRom data, .none)
  | .cpuReset => .next (s.cpuReset, .none)
  | .cpuStep => withOutput (step s) .none
  | .readCpu => .next (s, .cpu s.cpuView)
  | .ppuStep => .next ((s.ppuStep Config.pixelFn).1, .frameComplete (s.ppuStep Config.pixelFn).2)
  | .readScanline => .next (s, .scanline s.scanline)
  | .readFramebuffer => .next (s, .framebuffer s.framebuffer)
  | .press name => .next (s.press name, .none)
  | .release name => .next (s.release name, .none)
  | .isPressed name => .next (s, .pressed (s.isPressed name))
  | .serialize => .next (s, .bits s.serialize)

/-- A sequence of host operations, in any order and number (R253), with their outputs. -/
def performAll : List HostOp → State → Host.Outcome (State × List HostOutput) Fault Refusal
  | [], s => .next (s, [])
  | op :: ops, s =>
    match perform op s with
    | .fault f => .fault f
    | .refused r => .refused r
    | .next (t, out) =>
      match performAll ops t with
      | .fault f => .fault f
      | .refused r => .refused r
      | .next (u, outs) => .next (u, out :: outs)

/-- The host operations of one driver tick (R251), with `burst` the open parameter burst_len: a burst of CpuSteps, then
one PpuStep. The host presents ReadFramebuffer when that PpuStep answers a frame edge; the driver itself is outside the
core (R3, log 14). -/
def driverTick (burst : Nat) : List HostOp :=
  List.replicate burst .cpuStep ++ [.ppuStep]

end Sys2Proof.Machine
end

