-- ==== Sys2Proof/Safety.lean ====
section
/-! DEFINITION. What claims call a good state and a good run: the legal states of 10_state.md, the mode a CpuReset
leaves, and reachability. -/

namespace Sys2Proof.Machine

/-- An array of n bytes in canonical form. -/
abbrev Memory.Legal (n : Nat) (m : Memory) : Prop :=
  m.wf = true ∧ m.within n = true

/-- The banks of a legal ROM (R44): every bank but the last has length 0x8000, the last 1 to 0x8000, and each bank's
bytes lie in it. -/
def romLegal : List RomBank → Bool
  | [] => true
  | [bank] => decide (1 ≤ bank.len) && decide (bank.len ≤ Config.romBankSize) && bank.cells.wf && bank.cells.within bank.len
  | bank :: rest => decide (bank.len = Config.romBankSize) && bank.cells.wf && bank.cells.within bank.len && romLegal rest

/-- A legal state: each array in canonical form and of its size (R41 to R43, R48), the ROM as R44 says, the scanline
in 0..261 (R46). -/
abbrev State.Legal (s : State) : Prop :=
  Memory.Legal Config.wramSize s.wram ∧ Memory.Legal Config.sramSize s.sram ∧ Memory.Legal Config.vramSize s.vram ∧
    Memory.Legal Config.cgramSize s.cgram ∧ Memory.Legal Config.oamSize s.oam ∧ Memory.Legal Config.frameBytes s.fb ∧
    romLegal s.rom = true ∧ s.scanline < Config.scanlines

/-- The contents of a legal construction (R54). -/
abbrev MemPowerOn.Legal (m : MemPowerOn) : Prop :=
  Memory.Legal Config.wramSize m.wram ∧ Memory.Legal Config.sramSize m.sram ∧ Memory.Legal Config.vramSize m.vram ∧
    Memory.Legal Config.cgramSize m.cgram ∧ Memory.Legal Config.oamSize m.oam

/-- The mode a CpuReset leaves and nothing after it changes: E, M, X and I set, D and V clear, bank 0, SP 0x01FF
(R24, R26, R33, R36, R37). -/
abbrev State.InResetMode (s : State) : Prop :=
  s.e = true ∧ getFlag s.p .m = true ∧ getFlag s.p .x = true ∧ getFlag s.p .i = true ∧ getFlag s.p .d = false ∧
    getFlag s.p .v = false ∧ s.pb = 0x00 ∧ s.sp = 0x01FF

/-- What set_nz leaves of P when it turns `before` into `after` on the operand v (R38): bit 7 is the operand's bit 7, bit
1 says that the operand is zero, every other bit is as before. -/
abbrev FlagsAfterLoad (before after v : Byte) : Prop :=
  after.getLsbD 7 = v.getLsbD 7 ∧ after.getLsbD 1 = decide (v = 0) ∧
    ∀ k, k ≠ 1 → k ≠ 7 → after.getLsbD k = before.getLsbD k

/-- The state is one that a sequence of host operations reaches from some construction (R54, R253). -/
def State.Reachable (s : State) : Prop :=
  ∃ (cpu : CpuPowerOn) (mem : MemPowerOn) (ops : List HostOp) (outs : List HostOutput),
    mem.Legal ∧ performAll ops (.construct cpu mem) = .next (s, outs)

end Sys2Proof.Machine
end

