-- ==== Sys2Proof/Certificates/Slice0/Obligations.lean ====
section
/-! DEFINITION. The statements about the model, each a rule or a consequence of the rules of spec/. "D<n>" is a
decision of 92_eei_decisions.md, "log <n>" the row notes/assumptions/<n>.md. -/

open Sys2Proof Sys2Proof.Machine

/-- NOP completes and changes nothing but PC (by 1, modulo 2^16) and CYC (by 2). (R140) -/
def Obligations.NopChangesOnlyPcAndCyc : Prop :=
  ∀ s : State,
    exec .nop s = .next { s with pc := s.pc + 1, cyc := s.cyc + 2 } ∧
    (s.romLoaded = true → s.memRead (mkAddr s.pb s.pc) = 0xEA →
      step s = .next { s with pc := s.pc + 1, cyc := s.cyc + 2 }) ∧
    (s.decodeAddr (mkAddr s.pb s.pc) = .unmapped → s.memRead (mkAddr s.pb s.pc) ≠ 0xEA) ∧
    encode .nop = [0xEA]

/-- CLC completes, clears bit 0 of P and changes nothing else but PC and CYC (bit 0: decision D4, log 7). The bit
positions in P are the spec's decision D4 (log 7). (spec/41_flags_and_nop.md CLC, D4) -/
def Obligations.ClcClearsCarryOnly : Prop :=
  ∀ s : State,
    exec .clc s = .next { s with p := s.p &&& 0xFE, pc := s.pc + 1, cyc := s.cyc + 2 } ∧
    (s.romLoaded = true → s.memRead (mkAddr s.pb s.pc) = 0x18 → step s = exec .clc s)

/-- SEC completes, sets bit 0 of P and changes nothing else but PC and CYC (bit 0: decision D4, log 7). The bit
positions in P are the spec's decision D4 (log 7). (spec/41_flags_and_nop.md SEC, D4) -/
def Obligations.SecSetsCarryOnly : Prop :=
  ∀ s : State,
    exec .sec s = .next { s with p := s.p ||| 0x01, pc := s.pc + 1, cyc := s.cyc + 2 } ∧
    (s.romLoaded = true → s.memRead (mkAddr s.pb s.pc) = 0x38 → step s = exec .sec s)

/-- LDA # completes: A is the zero-extended byte, N and Z its flags, PC two on, CYC two up, the rest unchanged (D4,
D5: log 7, 9). The bit positions in P are the spec's decision D4 (log 7). The high byte 0x00 is its decision D5 (log
9). (spec/42_immediate_loads.md LDA #, D4, D5, D6) -/
def Obligations.LdaImmediateLoadsA : Prop :=
  ∀ (s : State) (v : Byte),
    (∃ t, exec (.ldaImm v) s = .next t ∧ FlagsAfterLoad s.p t.p v ∧
      t = { s with a := BitVec.ofNat 16 v.toNat, p := t.p, pc := s.pc + 2, cyc := s.cyc + 2 }) ∧
    (s.romLoaded = true → s.memRead (mkAddr s.pb s.pc) = 0xA9 → s.memRead (mkAddr s.pb (s.pc + 1)) = v →
      step s = exec (.ldaImm v) s)

/-- LDX # completes: X is the zero-extended byte, N and Z its flags, PC two on, CYC two up, the rest unchanged (D4,
D5: log 7, 9). The bit positions in P are the spec's decision D4 (log 7). The high byte 0x00 is its decision D5 (log
9). (spec/42_immediate_loads.md LDX #, D4, D5, D6) -/
def Obligations.LdxImmediateLoadsX : Prop :=
  ∀ (s : State) (v : Byte),
    (∃ t, exec (.ldxImm v) s = .next t ∧ FlagsAfterLoad s.p t.p v ∧
      t = { s with x := BitVec.ofNat 16 v.toNat, p := t.p, pc := s.pc + 2, cyc := s.cyc + 2 }) ∧
    (s.romLoaded = true → s.memRead (mkAddr s.pb s.pc) = 0xA2 → s.memRead (mkAddr s.pb (s.pc + 1)) = v →
      step s = exec (.ldxImm v) s)

/-- LDY # completes: Y is the zero-extended byte, N and Z its flags, PC two on, CYC two up, the rest unchanged (D4,
D5: log 7, 9). The bit positions in P are the spec's decision D4 (log 7). The high byte 0x00 is its decision D5 (log
9). (spec/42_immediate_loads.md LDY #, D4, D5, D6) -/
def Obligations.LdyImmediateLoadsY : Prop :=
  ∀ (s : State) (v : Byte),
    (∃ t, exec (.ldyImm v) s = .next t ∧ FlagsAfterLoad s.p t.p v ∧
      t = { s with y := BitVec.ofNat 16 v.toNat, p := t.p, pc := s.pc + 2, cyc := s.cyc + 2 }) ∧
    (s.romLoaded = true → s.memRead (mkAddr s.pb s.pc) = 0xA0 → s.memRead (mkAddr s.pb (s.pc + 1)) = v →
      step s = exec (.ldyImm v) s)

/-- JMP abs completes: PC is the little-endian operand, PB stays, CYC three up, nothing else changes. (R160) -/
def Obligations.JmpAbsSetsPcInTheBank : Prop :=
  (∀ (s : State) (target : Word), exec (.jmpAbs target) s = .next { s with pc := target, cyc := s.cyc + 3 }) ∧
  (∀ s : State, s.romLoaded = true → s.memRead (mkAddr s.pb s.pc) = 0x4C →
    step s = .next { s with
      pc := BitVec.ofNat 16 ((s.memRead (mkAddr s.pb (s.pc + 1))).toNat + 256 * (s.memRead (mkAddr s.pb (s.pc + 2))).toNat)
      cyc := s.cyc + 3 }) ∧
  (∀ lo hi : Byte, encode (.jmpAbs (BitVec.ofNat 16 (lo.toNat + 256 * hi.toNat))) = [0x4C, lo, hi])

/-- All 249 instructions default00 to defaultFF complete and change only PC (by 1) and CYC (by 2: decision D9, log
10). It covers every constructor default00 … defaultFF of Instr. The cost 2 is the spec's decision D9 (log 10).
(spec/44_unimplemented.md, D9, D10) -/
def Obligations.DefaultHandlerChangesOnlyPcAndCyc : Prop :=
  (∀ (i : Instr) (s : State), i.opcode ∉ registeredOpcodes →
    exec i s = .next { s with pc := s.pc + 1, cyc := s.cyc + 2 } ∧ encode i = [i.opcode]) ∧
  (∀ s : State, s.romLoaded = true → s.memRead (mkAddr s.pb s.pc) ∉ registeredOpcodes →
    step s = .next { s with pc := s.pc + 1, cyc := s.cyc + 2 })

/-- With a ROM loaded, a step is exec of the instruction the bytes at PC decode to, and nothing more.
(spec/40_dispatch.md CpuStep, spec/30_encoding.md Formats) -/
def Obligations.StepRunsDecodedInstruction : Prop :=
  ∀ (s : State) (i : Instr) (rest : List Byte), s.romLoaded = true →
    decode [s.memRead (mkAddr s.pb s.pc), s.memRead (mkAddr s.pb (s.pc + 1)), s.memRead (mkAddr s.pb (s.pc + 2))] =
      .ok (i, rest) →
    step s = exec i s

/-- With a ROM loaded, an instruction whose encoding stands at PC, wrapping inside the bank, is the one the step runs.
(spec/30_encoding.md Formats, spec/40_dispatch.md CpuStep) -/
def Obligations.EncodedInstructionInMemoryRuns : Prop :=
  ∀ (s : State) (i : Instr), s.romLoaded = true →
    (∀ k (h : k < (encode i).length), s.memRead (mkAddr s.pb (s.pc + BitVec.ofNat 16 k)) = (encode i)[k]) →
    step s = exec i s

/-- With no ROM loaded, CpuStep changes no state, wherever PC points. (R124) -/
def Obligations.StepWithoutRomChangesNothing : Prop :=
  ∀ s : State, (s.romLoaded = false → step s = .next s) ∧ (s.romLoaded = true ↔ 1 ≤ s.rom.length)

/-- The step, through decode and exec of 256 instructions, is the byte-by-byte CpuStep pseudocode of the spec on every
state. (spec/40_dispatch.md CpuStep, exactly, spec/41_flags_and_nop.md, spec/42_immediate_loads.md, spec/43_jump.md,
spec/44_unimplemented.md, D4, D5, D9) -/
def Obligations.StepEqualsSpecPseudocode : Prop :=
  ∀ s : State, step s = .next (cpuStepPseudocode s)

/-- Every step completes and writes nothing but A, X, Y, PC, P and CYC, of P only bits 0, 1 and 7 (decisions D4, D6;
log 7). (spec/40_dispatch.md R128, spec/10_state.md R53, spec/60_exceptions.md R250, D4, D6, log 7) -/
def Obligations.StepAlwaysCompletesInsideItsFrame : Prop :=
  ∀ s : State, ∃ t, step s = .next t ∧
    t = { s with a := t.a, x := t.x, y := t.y, pc := t.pc, p := t.p, cyc := t.cyc } ∧
    (∀ k, 2 ≤ k → k ≤ 6 → t.p.getLsbD k = s.p.getLsbD k) ∧ s.cyc ≤ t.cyc

/-- After a step PC is the start plus the length of the opcode modulo 2^16, for JMP abs the target; PB never changes.
(spec/40_dispatch.md, spec/30_encoding.md Length decoding) -/
def Obligations.PcAfterStep : Prop :=
  ∀ s : State, s.romLoaded = true → ∃ t, step s = .next t ∧ t.pb = s.pb ∧
    t.pc = if s.memRead (mkAddr s.pb s.pc) = 0x4C then
        BitVec.ofNat 16 ((s.memRead (mkAddr s.pb (s.pc + 1))).toNat + 256 * (s.memRead (mkAddr s.pb (s.pc + 2))).toNat)
      else if s.memRead (mkAddr s.pb s.pc) ∈ [0xA9, 0xA2, 0xA0] then s.pc + 2 else s.pc + 1

/-- A step with a ROM loaded adds 3 to CYC for JMP abs and 2 for every other opcode byte (default handler: decision
D9, log 10). (spec/40_dispatch.md, spec/70_reset_and_hazards.md Timing, D9) -/
def Obligations.CyclesAfterStep : Prop :=
  ∀ s : State, s.romLoaded = true → ∃ t, step s = .next t ∧
    t.cyc = s.cyc + (if s.memRead (mkAddr s.pb s.pc) = 0x4C then 3 else 2)

/-- A bit of P changes only as its instruction says: bit 0 by CLC and SEC, bits 1 and 7 by the immediate loads
(decisions D4, D6). (spec/10_state.md Status register and flags, D6, D4) -/
def Obligations.FlagsWrittenOnlyByTheirInstructions : Prop :=
  ∀ (i : Instr) (s : State), ∃ t, exec i s = .next t ∧
    ∀ k, t.p.getLsbD k ≠ s.p.getLsbD k →
      (k = 0 ∧ (i = .clc ∨ i = .sec)) ∨
      ((k = 1 ∨ k = 7) ∧ ∃ v, i = .ldaImm v ∨ i = .ldxImm v ∨ i = .ldyImm v)

/-- Every step keeps the agreement of two states on PC, PB, WRAM and ROM, and they step alike: no other register and
no device is read. (spec/10_state.md Hidden state, spec/10_state.md R53, spec/40_dispatch.md) -/
def Obligations.StepIgnoresRegistersNoInstructionReads : Prop :=
  ∀ s u : State, s.pc = u.pc → s.pb = u.pb → s.wram = u.wram → s.rom = u.rom →
    ∃ t w, step s = .next t ∧ step u = .next w ∧
      t.pc = w.pc ∧ t.pb = w.pb ∧ t.wram = w.wram ∧ t.rom = w.rom ∧
      t = { s with a := t.a, x := t.x, y := t.y, pc := t.pc, p := t.p, cyc := t.cyc } ∧
      w = { u with a := w.a, x := w.x, y := w.y, pc := w.pc, p := w.p, cyc := w.cyc } ∧ t.cyc + u.cyc = w.cyc + s.cyc ∧
      (t.a = w.a ∨ (t.a = s.a ∧ w.a = u.a)) ∧ (t.x = w.x ∨ (t.x = s.x ∧ w.x = u.x)) ∧
      (t.y = w.y ∨ (t.y = s.y ∧ w.y = u.y)) ∧
      ∀ k, t.p.getLsbD k = w.p.getLsbD k ∨ (t.p.getLsbD k = s.p.getLsbD k ∧ w.p.getLsbD k = u.p.getLsbD k)

/-- Running n unmapped bytes takes n default steps: PC n on, CYC 2n up, nothing else changed (cost 2: decision D9, log
10). (spec/40_dispatch.md unmapped fetch, D9) -/
def Obligations.UnmappedRunTakesDefaultSteps : Prop :=
  ∀ (n : Nat) (s : State), s.romLoaded = true →
    (∀ k < n, s.decodeAddr (mkAddr s.pb (s.pc + BitVec.ofNat 16 k)) = .unmapped) →
    Host.Core.run Sys2Proof.core n s = .next { s with pc := s.pc + BitVec.ofNat 16 n, cyc := s.cyc + 2 * n }

/-- The next step after withFetchWord runs the instruction the decoder reads from the table word (the model's loader,
log 4). (log 4, spec/70_reset_and_hazards.md Boot) -/
def Obligations.PlacedTableWordRunsNext : Prop :=
  ∀ (s : State) (nbits w : Nat) (i : Instr), s.wram.wf = true → decodeTableWord nbits w = some i →
    step (s.withFetchWord nbits w) = exec i (s.withFetchWord nbits w)

/-- Decoding n instructions gives a list exactly when the bytes are that list's encodings followed by the rest.
(spec/30_encoding.md Formats, spec/30_encoding.md Opcode map) -/
def Obligations.ProgramBytesRoundTrip : Prop :=
  ∀ (n : Nat) (bytes rest : List Byte) (is : List Instr),
    decodeN n bytes = .ok (is, rest) ↔ is.length = n ∧ bytes = is.flatMap encode ++ rest

/-- The opcode alone gives the length: 2 for 0xA9, 0xA2, 0xA0, 3 for 0x4C, 1 for every other (refusal of fewer bytes:
the model's choice, log 17). The spec gives the length; that a list with fewer bytes is refused is no rule of it.
(spec/30_encoding.md Length decoding, log 17) -/
def Obligations.OpcodeAloneGivesTheLength : Prop :=
  ∀ (op : Byte) (bytes : List Byte),
    let n := if op = 0x4C then 3 else if op ∈ [0xA9, 0xA2, 0xA0] then 2 else 1
    (n ≤ bytes.length + 1 → ∃ i, decode (op :: bytes) = .ok (i, bytes.drop (n - 1)) ∧ i.opcode = op) ∧
    (bytes.length + 1 < n → decode (op :: bytes) = .error (.truncated op))

/-- A few instructions written out byte by byte from the spec decode to what they stand for (a sanity statement).
(spec/30_encoding.md Opcode map, spec/95_test_vectors.md Program 1) -/
def Obligations.WrittenOutBytesDecode : Prop :=
  decode [0xEA] = .ok (.nop, []) ∧ decode [0x18] = .ok (.clc, []) ∧ decode [0x38] = .ok (.sec, []) ∧
  decode [0xA9, 0x80] = .ok (.ldaImm 0x80, []) ∧ decode [0xA2, 0x00] = .ok (.ldxImm 0x00, []) ∧
  decode [0xA0, 0x7F] = .ok (.ldyImm 0x7F, []) ∧ decode [0x4C, 0x09, 0x80] = .ok (.jmpAbs 0x8009, []) ∧
  decode [0x00] = .ok (.default00, [])

/-- A line of the assembler syntax decodes to its instruction, and .byte lines give any bytes (syntax: decision D27).
(spec/30_encoding.md Assembler syntax, D27) -/
def Obligations.AssembledLinesDecode : Prop :=
  decode (AsmLine.bytes .nop) = .ok (.nop, []) ∧ decode (AsmLine.bytes .clc) = .ok (.clc, []) ∧
  decode (AsmLine.bytes .sec) = .ok (.sec, []) ∧
  (∀ v, AsmLine.wf (.lda v) = true → decode (AsmLine.bytes (.lda v)) = .ok (.ldaImm (BitVec.ofNat 8 v), [])) ∧
  (∀ v, AsmLine.wf (.ldx v) = true → decode (AsmLine.bytes (.ldx v)) = .ok (.ldxImm (BitVec.ofNat 8 v), [])) ∧
  (∀ v, AsmLine.wf (.ldy v) = true → decode (AsmLine.bytes (.ldy v)) = .ok (.ldyImm (BitVec.ofNat 8 v), [])) ∧
  (∀ a, AsmLine.wf (.jmp a) = true → decode (AsmLine.bytes (.jmp a)) = .ok (.jmpAbs (BitVec.ofNat 16 a), [])) ∧
  (∀ bytes : List Byte, assemble (bytes.map (fun b => .byte b.toNat)) = bytes)

/-- Banks 0x7E and 0x7F route every offset to WRAM at ((bank - 0x7E) << 16) | offset, and a write lands there. (R61)
-/
def Obligations.WramBanksRouteToWram : Prop :=
  ∀ (s : State) (offset : Word) (v : Byte),
    s.decodeAddr (mkAddr 0x7E offset) = .wram offset.toNat ∧
    s.decodeAddr (mkAddr 0x7F offset) = .wram (0x10000 + offset.toNat) ∧
    s.memWrite (mkAddr 0x7E offset) v = { s with wram := s.wram.write offset.toNat v } ∧
    s.memWrite (mkAddr 0x7F offset) v = { s with wram := s.wram.write (0x10000 + offset.toNat) v }

/-- Offsets below 0x2000 reach the same WRAM byte from every bank but 0x7F, which reaches WRAM[0x10000 + offset]
(conflict C10). The source says "any bank"; the exception of 0x7F is the spec's inference, conflict C10 of
90_conflicts.md. (R61, R62, R66, C10) -/
def Obligations.MirrorInEveryBankButOne : Prop :=
  ∀ (s : State) (bank : Byte) (offset : Word), offset.toNat < 0x2000 →
    (bank ≠ 0x7F → s.decodeAddr (mkAddr bank offset) = .wram offset.toNat ∧
      s.memRead (mkAddr bank offset) = s.wram.read offset.toNat ∧
      ∀ v, s.memWrite (mkAddr bank offset) v = { s with wram := s.wram.write offset.toNat v }) ∧
    (bank = 0x7F → s.decodeAddr (mkAddr bank offset) = .wram (0x10000 + offset.toNat) ∧
      s.memRead (mkAddr bank offset) = s.wram.read (0x10000 + offset.toNat) ∧
      ∀ v, s.memWrite (mkAddr bank offset) v = { s with wram := s.wram.write (0x10000 + offset.toNat) v })

/-- The map of the 24-bit space: each of the ten rows of the address map routes as its row says (missing ROM bytes:
decision D11, log 11). (spec/20_memory.md Address map, D11) -/
def Obligations.AddressMapOfTheWholeSpace : Prop :=
  ∀ (s : State) (bank : Byte) (offset : Word),
    let b := bank.toNat
    let o := offset.toNat
    let romOr (k : Nat) := if k < s.rom.length ∧ o - 0x8000 < s.romLen k then Target.rom k (o - 0x8000) else .unmapped
    (b ≤ 0x3F → o ≤ 0x1FFF → s.decodeAddr (mkAddr bank offset) = .wram o) ∧
    (b ≤ 0x3F → 0x2000 ≤ o → o ≤ 0x7FFF → s.decodeAddr (mkAddr bank offset) = .unmapped) ∧
    (b ≤ 0x3F → 0x8000 ≤ o → s.decodeAddr (mkAddr bank offset) = romOr b) ∧
    (0x40 ≤ b → b ≤ 0x7D → o ≤ 0x1FFF → s.decodeAddr (mkAddr bank offset) = .wram o) ∧
    (0x40 ≤ b → b ≤ 0x7D → 0x2000 ≤ o → s.decodeAddr (mkAddr bank offset) = .unmapped) ∧
    (b = 0x7E → s.decodeAddr (mkAddr bank offset) = .wram o) ∧
    (b = 0x7F → s.decodeAddr (mkAddr bank offset) = .wram (0x10000 + o)) ∧
    (0x80 ≤ b → o ≤ 0x1FFF → s.decodeAddr (mkAddr bank offset) = .wram o) ∧
    (0x80 ≤ b → 0x2000 ≤ o → o ≤ 0x7FFF → s.decodeAddr (mkAddr bank offset) = .unmapped) ∧
    (0x80 ≤ b → 0x8000 ≤ o → s.decodeAddr (mkAddr bank offset) = romOr (b - 0x80))

/-- A read gives the routed WRAM or ROM byte, 0x00 where unmapped, and changes no state (wide host integers: decision
D30, log 17). (R67, R60, D30, log 17) -/
def Obligations.ReadsGiveTheRoutedByte : Prop :=
  (∀ (s : State) (addr : Addr),
    (∀ j, s.decodeAddr addr = .wram j → s.memRead addr = s.wram.read j) ∧
    (∀ b i, s.decodeAddr addr = .rom b i →
      ∃ bank, s.rom[b]? = some bank ∧ i < bank.len ∧ s.memRead addr = bank.cells.read i) ∧
    (s.decodeAddr addr = .unmapped → s.memRead addr = 0x00)) ∧
  (∀ (s : State) (n : Nat), perform (.memRead n) s = .next (s, .byte (s.memRead (BitVec.ofNat 24 n))))

/-- A write stores one WRAM byte where the address is routed to WRAM, and changes no state anywhere else. (R68) -/
def Obligations.WritesStoreOneWramByteOrNothing : Prop :=
  ∀ (s : State) (addr : Addr) (v : Byte), s.wram.wf = true →
    (∀ j, s.decodeAddr addr = .wram j →
      s.memWrite addr v = { s with wram := (s.memWrite addr v).wram } ∧
      ∀ k, (s.memWrite addr v).wram.read k = if k = j then v else s.wram.read k) ∧
    ((∀ j, s.decodeAddr addr ≠ .wram j) → s.memWrite addr v = s) ∧
    perform (.memWrite addr.toNat v) s = .next (s.memWrite addr v, .none)

/-- After a write every address reads as before, but those routed to the written WRAM byte, which read the value.
(spec/20_memory.md Memory ordering) -/
def Obligations.ReadAfterWrite : Prop :=
  ∀ (s : State) (addr other : Addr) (v : Byte), s.wram.wf = true →
    (s.memWrite addr v).memRead other =
      if s.isWram addr = true ∧ s.decodeAddr other = s.decodeAddr addr then v else s.memRead other

/-- No address reaches SRAM, VRAM, CGRAM, OAM or a device: states with the same WRAM and ROM read and route alike
(decision D14). (spec/20_memory.md Decode, spec/10_state.md Memory state, D14) -/
def Obligations.ReadsSeeOnlyWramAndRom : Prop :=
  ∀ (s u : State), s.wram = u.wram → s.rom = u.rom → ∀ (addr : Addr) (v : Byte),
    s.decodeAddr addr = u.decodeAddr addr ∧ s.memRead addr = u.memRead addr ∧
    (s.memWrite addr v).wram = (u.memWrite addr v).wram ∧ (s.memWrite addr v).rom = s.rom ∧
    (s.memWrite addr v).sram = s.sram ∧ (s.memWrite addr v).vram = s.vram ∧
    (s.memWrite addr v).cgram = s.cgram ∧ (s.memWrite addr v).oam = s.oam

/-- LoadRom strips a copier header, cuts the image into ceil(m / 0x8000) banks and replaces only the ROM (D12, log 11;
D17, log 15). (spec/20_memory.md ROM loading, D12, D17) -/
def Obligations.LoadRomCutsTheImageIntoBanks : Prop :=
  (∀ s : State, s.loadRom [] = s) ∧
  ∀ (s : State) (data : List Byte), data ≠ [] →
    let image := if data.length % 1024 = 512 then data.drop 512 else data
    let t := s.loadRom data
    t = { s with rom := t.rom } ∧
    t.rom.length = (image.length + 0x7FFF) / 0x8000 ∧ (∀ b, t.romLen b ≤ 0x8000) ∧
    ∀ b i, i < 0x8000 →
      ((b < t.rom.length ∧ i < t.romLen b) ↔ b * 0x8000 + i < image.length) ∧
      (b * 0x8000 + i < image.length → t.romByte b i = image.getD (b * 0x8000 + i) 0)

/-- LoadRom then CpuReset starts at the image's vector in bank 0, and the first byte fetched is the image's byte
there. (spec/70_reset_and_hazards.md Boot, spec/20_memory.md Address map, D11, D16, D17) -/
def Obligations.BootFromImage : Prop :=
  ∀ (s : State) (data : List Byte), data ≠ [] →
    let image := if data.length % 1024 = 512 then data.drop 512 else data
    let t := (s.loadRom data).cpuReset
    t.pb = 0 ∧ t.pc.toNat = (image.getD 0x7FFC 0).toNat + 256 * (image.getD 0x7FFD 0).toNat ∧
    (0x8000 ≤ t.pc.toNat → t.memRead (mkAddr t.pb t.pc) = image.getD (t.pc.toNat - 0x8000) 0)

/-- After CpuReset SP, P, E and PB have their reset values and PC is the vector, whatever came before; a second
CpuReset changes nothing. (R261) -/
def Obligations.CpuResetIsIdempotentInEffect : Prop :=
  ∀ s : State,
    s.cpuReset.sp = 0x01FF ∧ s.cpuReset.p = 0x34 ∧ s.cpuReset.e = true ∧ s.cpuReset.pb = 0x00 ∧
    s.cpuReset.pc.toNat = (s.memRead 0x00FFFC).toNat + 256 * (s.memRead 0x00FFFD).toNat ∧
    s.cpuReset.cpuReset = s.cpuReset

/-- CpuReset changes PC, PB, SP, P and E only: A, X, Y, DB, CYC, memory, PPU and controller keep their values
(decisions D7, D8, D17). (spec/70_reset_and_hazards.md Reset, D7, D8, D17) -/
def Obligations.CpuResetWritesOnlyFiveRegisters : Prop :=
  ∀ s : State,
    s.cpuReset = { s with pc := s.cpuReset.pc, pb := s.cpuReset.pb, sp := s.cpuReset.sp, p := s.cpuReset.p,
                          e := s.cpuReset.e } ∧
    (s.rom = [] → s.cpuReset.pc = 0x0000)

/-- The construction state holds its parameters; State.reset is it with zero parameters and then CpuReset (the zeros:
model's choice, log 1, 3). (spec/70_reset_and_hazards.md Reset, spec/10_state.md Construction state, D8, D13, D20,
D25, log 1, log 2, log 3) -/
def Obligations.ResetIsConstructionThenCpuReset : Prop :=
  State.reset = (State.construct ⟨0, 0, 0, 0, 0, 0, 0, 0, false⟩ ⟨[], [], [], [], []⟩).cpuReset ∧
  ∀ (cpu : CpuPowerOn) (mem : MemPowerOn),
    let c := State.construct cpu mem
    (c.a = cpu.a ∧ c.x = cpu.x ∧ c.y = cpu.y ∧ c.sp = cpu.sp ∧ c.pc = cpu.pc ∧ c.pb = cpu.pb ∧ c.db = cpu.db ∧ c.p = cpu.p ∧
      c.e = cpu.e) ∧
    (c.wram = mem.wram ∧ c.sram = mem.sram ∧ c.vram = mem.vram ∧ c.cgram = mem.cgram ∧ c.oam = mem.oam) ∧
    (c.cyc = 0 ∧ c.rom = [] ∧ c.scanline = 0 ∧ c.bgMode = 0 ∧ c.brightness = 0 ∧ (∀ k, c.fb.read k = 0) ∧
      ∀ btn, c.btn.get btn = false) ∧
    c.cpuReset =
      { State.reset with
        a := cpu.a, x := cpu.x, y := cpu.y, db := cpu.db
        wram := mem.wram, sram := mem.sram, vram := mem.vram, cgram := mem.cgram, oam := mem.oam }

/-- A PpuStep renders exactly its visible line, advances the scanline modulo 262 and signals the frame edge at 261
(decisions D21 to D23). (spec/60_exceptions.md PPU, D21, D22, D23) -/
def Obligations.PpuStepRendersOneLine : Prop :=
  ∀ (f : PixelFn) (s : State), s.fb.wf = true →
    let t := (s.ppuStep f).1
    (s.ppuStep f).2 = decide (s.scanline = 261) ∧ t = { s with fb := t.fb, scanline := (s.scanline + 1) % 262 } ∧
    (∀ (x : Fin 256) (y : Fin 224), t.pixel x y = if y = s.scanline then f x y else s.pixel x y) ∧
    (∀ k, k / 768 ≠ s.scanline → t.fb.read k = s.fb.read k) ∧ (224 ≤ s.scanline → t.fb = s.fb)

/-- The scanline stays in 0..261 after any number of PpuSteps and is back at its start after 262 of them. (R214) -/
def Obligations.ScanlineReturnsAfter262Steps : Prop :=
  ∀ (f : PixelFn) (s : State), s.scanline < 262 →
    (∀ n, (State.ppuSteps f n s).1.scanline = (s.scanline + n) % 262 ∧ (State.ppuSteps f n s).1.scanline < 262) ∧
    (State.ppuSteps f 262 s).1.scanline = s.scanline

/-- Of n PpuSteps from scanline s, exactly floor((s + n) / 262) are frame edges (decision D23). (spec/60_exceptions.md
Frame edge, spec/95_test_vectors.md V96, D23) -/
def Obligations.FrameEdgesCounted : Prop :=
  ∀ (f : PixelFn) (n : Nat) (s : State), s.scanline < 262 →
    (State.ppuSteps f n s).2 = (s.scanline + n) / 262

/-- After 262 PpuSteps, from any scanline and any framebuffer, every visible pixel holds the pixel function's value.
(spec/60_exceptions.md PPU, spec/95_test_vectors.md V97, D21, D22) -/
def Obligations.FrameIsWholeAfter262Steps : Prop :=
  ∀ (f : PixelFn) (s : State), s.scanline < 262 → s.fb.wf = true →
    (∀ (x : Fin 256) (y : Fin 224), (State.ppuSteps f 262 s).1.pixel x y = f x y) ∧
    (State.ppuSteps f 262 s).1 = { s with fb := (State.ppuSteps f 262 s).1.fb }

/-- ReadFramebuffer gives 172032 bytes, byte (y*256 + x)*3 + c being component c of pixel (x, y) (decision D22).
(spec/60_exceptions.md ReadFramebuffer, D22) -/
def Obligations.FramebufferIsRowMajor : Prop :=
  ∀ s : State, ∃ bytes, perform .readFramebuffer s = .next (s, .framebuffer bytes) ∧ bytes.length = 172032 ∧
    ∀ (x : Fin 256) (y : Fin 224),
      bytes[(y.val * 256 + x.val) * 3]? = some (s.pixel x y).red ∧
      bytes[(y.val * 256 + x.val) * 3 + 1]? = some (s.pixel x y).green ∧
      bytes[(y.val * 256 + x.val) * 3 + 2]? = some (s.pixel x y).blue

/-- Release clears the named button and no other; an unrecognized name changes nothing. (R232) -/
def Obligations.ReleaseClearsTheNamedButton : Prop :=
  ∀ s : State,
    (∀ btn : Button, (s.release btn.name).btn.get btn = false ∧ (∀ c, c ≠ btn → (s.release btn.name).btn.get c = s.btn.get c) ∧
      s.release btn.name = { s with btn := (s.release btn.name).btn }) ∧
    (∀ name, (∀ btn : Button, btn.name ≠ name) → s.release name = s) ∧
    (((s.press "a").release "b").btn.get .a = true ∧ ((s.press "a").release "b").btn.get .b = false ∧
      ∀ c, c ≠ .a → c ≠ .b → ((s.press "a").release "b").btn.get c = s.btn.get c)

/-- Press sets the named button and no other, IsPressed reads it, an unrecognized name changes nothing and reads false
(decision D25). (spec/60_exceptions.md Controller, D25) -/
def Obligations.PressSetsTheNamedButton : Prop :=
  (∀ s : State,
    (∀ btn : Button, (s.press btn.name).btn.get btn = true ∧ (∀ c, c ≠ btn → (s.press btn.name).btn.get c = s.btn.get c) ∧
      s.press btn.name = { s with btn := (s.press btn.name).btn } ∧ s.isPressed btn.name = s.btn.get btn) ∧
    (∀ name, (∀ btn : Button, btn.name ≠ name) → s.press name = s ∧ s.isPressed name = false)) ∧
  (∀ btn : Button, btn.name ≠ "A" ∧ btn.name ≠ "turbo")

/-- After any sequence of presses and releases each button is what the last operation naming it says, or what it was
if none does. (spec/60_exceptions.md Controller order-independent) -/
def Obligations.LastNamingOperationDecidesAButton : Prop :=
  ∀ (ops : List (Bool × String)) (s : State) (btn : Button),
    (ops.foldl (fun u op => if op.1 then u.press op.2 else u.release op.2) s).btn.get btn =
      (((ops.filter (fun op => op.2 == btn.name)).getLast?).map Prod.fst).getD (s.btn.get btn)

/-- Serialize answers 16 bits: B, Y, Select, Start, Up, Down, Left, Right, A, X, L, R, then four zeros, and changes no
state (decision D25). (spec/60_exceptions.md Serialize, D25) -/
def Obligations.SerializeGivesCanonicalOrder : Prop :=
  (∀ s : State, perform .serialize s = .next (s, .bits
    [s.btn.b, s.btn.y, s.btn.select, s.btn.start, s.btn.up, s.btn.down, s.btn.left, s.btn.right, s.btn.a, s.btn.x,
      s.btn.l, s.btn.r, false, false, false, false])) ∧
  serialWord ((State.reset.press "a").press "start").serialize = 0x1080

/-- No host operation, in any order and number, faults or is refused: each completes with a next state. (R200) -/
def Obligations.EveryOperationCompletes : Prop :=
  (∀ (ops : List HostOp) (s : State), ∃ t outs, performAll ops s = .next (t, outs) ∧ outs.length = ops.length) ∧
  (∀ (i : Instr) (s : State), ∃ t, exec i s = .next t) ∧ (∀ s : State, ∃ t, step s = .next t)

/-- Each host operation writes only what its row of R250 lists: one WRAM byte, one button, the ROM, five registers ...
(D7, D8, D15, D17, D24, D30). (spec/60_exceptions.md Host interface, spec/10_state.md R53, R60, D7, D8, D15, D17, D24,
D30, log 15, log 17) -/
def Obligations.HostOperationsWriteOnlyTheirState : Prop :=
  ∀ (op : HostOp) (s : State), ∃ t out, perform op s = .next (t, out) ∧
    match op with
    | .memWrite n _ => t = { s with wram := t.wram } ∧
        (s.wram.wf = true → ∀ k, s.decodeAddr (BitVec.ofNat 24 n) ≠ .wram k → t.wram.read k = s.wram.read k) ∧
        ((∀ k, s.decodeAddr (BitVec.ofNat 24 n) ≠ .wram k) → t = s)
    | .loadRom _ => t = { s with rom := t.rom }
    | .cpuReset => t = { s with pc := t.pc, pb := t.pb, sp := t.sp, p := t.p, e := t.e }
    | .cpuStep => t = { s with pc := t.pc, a := t.a, x := t.x, y := t.y, p := t.p, cyc := t.cyc }
    | .ppuStep => t = { s with scanline := t.scanline, fb := t.fb }
    | .press name => t = { s with btn := t.btn } ∧ (∀ c : Button, c.name ≠ name → t.btn.get c = s.btn.get c) ∧
        ((∀ c : Button, c.name ≠ name) → t = s)
    | .release name => t = { s with btn := t.btn } ∧ (∀ c : Button, c.name ≠ name → t.btn.get c = s.btn.get c) ∧
        ((∀ c : Button, c.name ≠ name) → t = s)
    | .memRead _ => t = s
    | .readCpu => t = s
    | .readScanline => t = s
    | .readFramebuffer => t = s
    | .isPressed _ => t = s
    | .serialize => t = s

/-- DB, SRAM, VRAM, CGRAM, OAM, bg_mode and brightness keep their values under any sequence of host operations (D8,
D14, D20: log 15). (spec/10_state.md R27, spec/10_state.md Memory state, spec/10_state.md PPU state, D8, D14, D20, log
15) -/
def Obligations.StateNoOperationWritesStaysForever : Prop :=
  ∀ (ops : List HostOp) (s : State), ∃ t outs, performAll ops s = .next (t, outs) ∧
    t.db = s.db ∧ t.sram = s.sram ∧ t.vram = s.vram ∧ t.cgram = s.cgram ∧ t.oam = s.oam ∧ t.bgMode = s.bgMode ∧
    t.brightness = s.brightness

/-- CYC never decreases under any host operations, only CpuStep changes it, by at most 3 (decision D7; default cost
D9, log 10). (spec/10_state.md Cycle counter, spec/40_dispatch.md R121, spec/70_reset_and_hazards.md Timing, D7, D9,
log 10) -/
def Obligations.CycChangesOnlyByCpuStep : Prop :=
  ∀ (ops : List HostOp) (s : State), ∃ t outs, performAll ops s = .next (t, outs) ∧ s.cyc ≤ t.cyc ∧
    t.cyc ≤ s.cyc + 3 * ops.count .cpuStep

/-- Every step keeps a legal state legal: canonical memories of their sizes, a ROM of full banks but the last, a
scanline in 0..261. (spec/10_state.md Memory state, spec/10_state.md PPU state) -/
def Obligations.StepKeepsLegalStates : Prop :=
  ∀ s : State, s.Legal → ∃ t, step s = .next t ∧ t.Legal

/-- Every one of the thirteen host operations keeps a legal state legal, LoadRom of any data and PpuStep of any pixel
included. (spec/10_state.md Memory state, spec/10_state.md PPU state, spec/20_memory.md ROM loading) -/
def Obligations.HostOperationsKeepLegalStates : Prop :=
  ∀ (op : HostOp) (s : State), s.Legal → ∃ t out, perform op s = .next (t, out) ∧ t.Legal

/-- State.reset is legal, and so is the construction state for every legal contents of the memories. (spec/10_state.md
Construction state, log 1, log 3) -/
def Obligations.ResetAndConstructionAreLegal : Prop :=
  State.reset.Legal ∧ ∀ (cpu : CpuPowerOn) (mem : MemPowerOn), mem.Legal → (State.construct cpu mem).Legal

/-- Every state that host operations reach from any construction is legal. (spec/10_state.md Construction state,
spec/60_exceptions.md Host interface) -/
def Obligations.ReachableStatesAreLegal : Prop :=
  ∀ s : State, s.Reachable → s.Legal

/-- From a CpuReset on, E, M, X and I stay 1, D and V stay 0, PB stays 0 and SP stays 0x01FF under every operation
(decision D4). (spec/10_state.md Status register and flags, spec/60_exceptions.md Privilege, D4) -/
def Obligations.ResetModeLastsForever : Prop :=
  (∀ s : State, s.cpuReset.InResetMode) ∧
  ∀ (ops : List HostOp) (s : State), s.InResetMode → ∃ t outs, performAll ops s = .next (t, outs) ∧ t.InResetMode

/-- One driver tick advances the PPU by one line whatever its CPU burst does, and the burst is the CPU's own run
(decision D29). (spec/60_exceptions.md Host interface, spec/60_exceptions.md PPU, D29) -/
def Obligations.DriverTickPacesThePpuAlone : Prop :=
  ∀ (n : Nat) (s : State), ∃ t u outs, performAll (driverTick n) s = .next (t, outs) ∧
    Host.Core.run Sys2Proof.core n s = .next u ∧
    t = { u with scanline := (s.scanline + 1) % 262, fb := (s.ppuStep Config.pixelFn).1.fb } ∧
    outs.getLast? = some (.frameComplete (decide (s.scanline = 261)))

/-- MemRead and MemWrite of any host integer act at its low 24 bits (decision D30, log 17). (R60, R67, R68, D30, log
17) -/
def Obligations.HostAddressesLoseBitsAbove23 : Prop :=
  ∀ (s : State) (n : Nat) (v : Byte),
    (BitVec.ofNat 24 n).toNat = n % 0x1000000 ∧
    perform (.memRead n) s = .next (s, .byte (s.memRead (BitVec.ofNat 24 n))) ∧
    perform (.memWrite n v) s = .next (s.memWrite (BitVec.ofNat 24 n) v, .none) ∧
    perform (.memRead n) s = perform (.memRead (n % 0x1000000)) s ∧
    perform (.memWrite n v) s = perform (.memWrite (n % 0x1000000) v) s

/-- Each host operation is the state operation of its name, with the output its row of R250 lists (D1; IsPressed of an
unknown name: D25). (spec/60_exceptions.md Host interface, R40, R46, R234, D1, D25) -/
def Obligations.HostOperationsAnswerTheirOutputs : Prop :=
  ∀ s : State,
    perform .readCpu s = .next (s, .cpu
      { a := s.a, x := s.x, y := s.y, sp := s.sp, pc := s.pc, pb := s.pb, db := s.db, p := s.p, e := s.e, cyc := s.cyc }) ∧
    perform .readScanline s = .next (s, .scanline s.scanline) ∧
    perform .readFramebuffer s = .next (s, .framebuffer s.framebuffer) ∧
    perform .serialize s = .next (s, .bits s.serialize) ∧
    (∀ name, perform (.isPressed name) s = .next (s, .pressed (s.isPressed name))) ∧
    (∀ c : Button, perform (.isPressed c.name) s = .next (s, .pressed (s.btn.get c))) ∧
    (∀ name, (∀ c : Button, c.name ≠ name) → perform (.isPressed name) s = .next (s, .pressed false)) ∧
    (∀ data, perform (.loadRom data) s = .next (s.loadRom data, .none)) ∧
    perform .cpuReset s = .next (s.cpuReset, .none) ∧
    (∀ name, perform (.press name) s = .next (s.press name, .none)) ∧
    (∀ name, perform (.release name) s = .next (s.release name, .none)) ∧
    (∃ t, step s = .next t ∧ perform .cpuStep s = .next (t, .none)) ∧
    perform .ppuStep s = .next ((s.ppuStep Config.pixelFn).1, .frameComplete (decide (s.scanline = 261)))
end

