-- ==== Sys2Proof/Laws/Controller.lean ====
section
/-! SUPPORT. The buttons: names and buttons match one to one, and a press or release changes one button. -/

namespace Sys2Proof.Machine

/-- One button after another is set. -/
@[simp] theorem Buttons.get_set (s : Buttons) (btn btn' : Button) (v : Bool) :
    (s.set btn v).get btn' = if btn' = btn then v else s.get btn' := by
  cases btn <;> cases btn' <;> rfl

/-- Each button's name stands for it (R49, R231). -/
@[simp] theorem Button.ofName_name (btn : Button) : Button.ofName btn.name = some btn := by
  cases btn <;> decide

/-- A name that stands for a button is that button's name. -/
theorem Button.name_of_ofName {name : String} {btn : Button} (h : Button.ofName name = some btn) : btn.name = name := by
  simpa using List.find?_some h

/-- A name that is no button's stands for none (R233). -/
theorem Button.ofName_none {name : String} (h : ∀ btn : Button, btn.name ≠ name) : Button.ofName name = none := by
  cases hn : Button.ofName name with
  | none => rfl
  | some btn => exact absurd (Button.name_of_ofName hn) (h btn)

/-- The buttons after a press or release: the named one set, the others as before (R231, R232). -/
theorem State.get_setButton (s : State) (name : String) (v : Bool) (btn : Button) :
    (s.setButton name v).btn.get btn = if btn.name = name then v else s.btn.get btn := by
  unfold State.setButton
  cases hn : Button.ofName name with
  | none =>
    rw [if_neg]
    intro h
    rw [← h, Button.ofName_name] at hn
    exact absurd hn (by simp)
  | some c =>
    have hc := Button.name_of_ofName hn
    subst hc
    simp only [Buttons.get_set]
    by_cases hb : btn = c
    · simp [hb]
    · have : btn.name ≠ c.name := fun h => hb (by
        have := congrArg Button.ofName h
        simpa using this)
      simp [hb, this]

/-- A press or release changes the buttons at most. -/
theorem State.setButton_eq (s : State) (name : String) (v : Bool) :
    s.setButton name v = { s with btn := (s.setButton name v).btn } := by
  unfold State.setButton
  cases Button.ofName name <;> rfl

end Sys2Proof.Machine
end

