-- ==== Sys2Proof/Laws/Decode.lean ====
section
/-! SUPPORT. What an opcode byte can select (R104, R105), and the decoder in terms of it. -/

namespace Sys2Proof

/-- What an entry of the opcode map may be: a default entry of its own unregistered opcode byte, or the entry of one
of the seven registered bytes. -/
def OpcodeEntry.standsFor (op : Byte) : OpcodeEntry → Prop
  | .dflt i => i.opcode = op ∧ i.isDefault = true ∧ i.operandBytes = []
  | .imp i => op = 0xEA ∧ i = .nop ∨ op = 0x18 ∧ i = .clc ∨ op = 0x38 ∧ i = .sec
  | .imm8 mk => op = 0xA9 ∧ mk = .ldaImm ∨ op = 0xA2 ∧ mk = .ldxImm ∨ op = 0xA0 ∧ mk = .ldyImm
  | .abs16 mk => op = 0x4C ∧ mk = .jmpAbs

/-- Consecutive entries of the opcode map, the first at opcode byte n, each standing for its byte. -/
def standsForFrom : Nat → List OpcodeEntry → Prop
  | _, [] => True
  | n, entry :: entries => entry.standsFor (BitVec.ofNat 8 n) ∧ standsForFrom (n + 1) entries

theorem standsForFrom_append {n l l' : Nat} {es fs : List OpcodeEntry} (he : standsForFrom n es ∧ es.length = l)
    (hf : standsForFrom (n + l) fs ∧ fs.length = l') :
    standsForFrom n (es ++ fs) ∧ (es ++ fs).length = l + l' := by
  refine ⟨?_, by rw [List.length_append, he.2, hf.2]⟩
  obtain ⟨he, rfl⟩ := he
  induction es generalizing n with
  | nil => exact hf.1
  | cons e es ih =>
    refine ⟨he.1, ih he.2 ?_⟩
    rwa [show n + 1 + es.length = n + (e :: es).length by simp; omega]

theorem standsForFrom_getElem {n k : Nat} {es : List OpcodeEntry} (he : standsForFrom n es) (hk : k < es.length) :
    es[k].standsFor (BitVec.ofNat 8 (n + k)) := by
  induction es generalizing n k with
  | nil => simp at hk
  | cons e es ih =>
    cases k with
    | zero => exact he.1
    | succ k =>
      have := ih he.2 (k := k) (by simpa using hk)
      rwa [show n + 1 + k = n + (k + 1) by omega] at this

theorem opcodeRow0_standsFor : standsForFrom 0x00 opcodeRow0 ∧ opcodeRow0.length = 16 :=
  ⟨⟨⟨rfl, rfl, rfl⟩, ⟨rfl, rfl, rfl⟩, ⟨rfl, rfl, rfl⟩, ⟨rfl, rfl, rfl⟩,
   ⟨rfl, rfl, rfl⟩, ⟨rfl, rfl, rfl⟩, ⟨rfl, rfl, rfl⟩, ⟨rfl, rfl, rfl⟩,
   ⟨rfl, rfl, rfl⟩, ⟨rfl, rfl, rfl⟩, ⟨rfl, rfl, rfl⟩, ⟨rfl, rfl, rfl⟩,
   ⟨rfl, rfl, rfl⟩, ⟨rfl, rfl, rfl⟩, ⟨rfl, rfl, rfl⟩, ⟨rfl, rfl, rfl⟩, trivial⟩, rfl⟩

theorem opcodeRow1_standsFor : standsForFrom 0x10 opcodeRow1 ∧ opcodeRow1.length = 16 :=
  ⟨⟨⟨rfl, rfl, rfl⟩, ⟨rfl, rfl, rfl⟩, ⟨rfl, rfl, rfl⟩, ⟨rfl, rfl, rfl⟩,
   ⟨rfl, rfl, rfl⟩, ⟨rfl, rfl, rfl⟩, ⟨rfl, rfl, rfl⟩, ⟨rfl, rfl, rfl⟩,
   .inr (.inl ⟨rfl, rfl⟩), ⟨rfl, rfl, rfl⟩, ⟨rfl, rfl, rfl⟩, ⟨rfl, rfl, rfl⟩,
   ⟨rfl, rfl, rfl⟩, ⟨rfl, rfl, rfl⟩, ⟨rfl, rfl, rfl⟩, ⟨rfl, rfl, rfl⟩, trivial⟩, rfl⟩

theorem opcodeRow2_standsFor : standsForFrom 0x20 opcodeRow2 ∧ opcodeRow2.length = 16 :=
  ⟨⟨⟨rfl, rfl, rfl⟩, ⟨rfl, rfl, rfl⟩, ⟨rfl, rfl, rfl⟩, ⟨rfl, rfl, rfl⟩,
   ⟨rfl, rfl, rfl⟩, ⟨rfl, rfl, rfl⟩, ⟨rfl, rfl, rfl⟩, ⟨rfl, rfl, rfl⟩,
   ⟨rfl, rfl, rfl⟩, ⟨rfl, rfl, rfl⟩, ⟨rfl, rfl, rfl⟩, ⟨rfl, rfl, rfl⟩,
   ⟨rfl, rfl, rfl⟩, ⟨rfl, rfl, rfl⟩, ⟨rfl, rfl, rfl⟩, ⟨rfl, rfl, rfl⟩, trivial⟩, rfl⟩

theorem opcodeRow3_standsFor : standsForFrom 0x30 opcodeRow3 ∧ opcodeRow3.length = 16 :=
  ⟨⟨⟨rfl, rfl, rfl⟩, ⟨rfl, rfl, rfl⟩, ⟨rfl, rfl, rfl⟩, ⟨rfl, rfl, rfl⟩,
   ⟨rfl, rfl, rfl⟩, ⟨rfl, rfl, rfl⟩, ⟨rfl, rfl, rfl⟩, ⟨rfl, rfl, rfl⟩,
   .inr (.inr ⟨rfl, rfl⟩), ⟨rfl, rfl, rfl⟩, ⟨rfl, rfl, rfl⟩, ⟨rfl, rfl, rfl⟩,
   ⟨rfl, rfl, rfl⟩, ⟨rfl, rfl, rfl⟩, ⟨rfl, rfl, rfl⟩, ⟨rfl, rfl, rfl⟩, trivial⟩, rfl⟩

theorem opcodeRow4_standsFor : standsForFrom 0x40 opcodeRow4 ∧ opcodeRow4.length = 16 :=
  ⟨⟨⟨rfl, rfl, rfl⟩, ⟨rfl, rfl, rfl⟩, ⟨rfl, rfl, rfl⟩, ⟨rfl, rfl, rfl⟩,
   ⟨rfl, rfl, rfl⟩, ⟨rfl, rfl, rfl⟩, ⟨rfl, rfl, rfl⟩, ⟨rfl, rfl, rfl⟩,
   ⟨rfl, rfl, rfl⟩, ⟨rfl, rfl, rfl⟩, ⟨rfl, rfl, rfl⟩, ⟨rfl, rfl, rfl⟩,
   ⟨rfl, rfl⟩, ⟨rfl, rfl, rfl⟩, ⟨rfl, rfl, rfl⟩, ⟨rfl, rfl, rfl⟩, trivial⟩, rfl⟩

theorem opcodeRow5_standsFor : standsForFrom 0x50 opcodeRow5 ∧ opcodeRow5.length = 16 :=
  ⟨⟨⟨rfl, rfl, rfl⟩, ⟨rfl, rfl, rfl⟩, ⟨rfl, rfl, rfl⟩, ⟨rfl, rfl, rfl⟩,
   ⟨rfl, rfl, rfl⟩, ⟨rfl, rfl, rfl⟩, ⟨rfl, rfl, rfl⟩, ⟨rfl, rfl, rfl⟩,
   ⟨rfl, rfl, rfl⟩, ⟨rfl, rfl, rfl⟩, ⟨rfl, rfl, rfl⟩, ⟨rfl, rfl, rfl⟩,
   ⟨rfl, rfl, rfl⟩, ⟨rfl, rfl, rfl⟩, ⟨rfl, rfl, rfl⟩, ⟨rfl, rfl, rfl⟩, trivial⟩, rfl⟩

theorem opcodeRow6_standsFor : standsForFrom 0x60 opcodeRow6 ∧ opcodeRow6.length = 16 :=
  ⟨⟨⟨rfl, rfl, rfl⟩, ⟨rfl, rfl, rfl⟩, ⟨rfl, rfl, rfl⟩, ⟨rfl, rfl, rfl⟩,
   ⟨rfl, rfl, rfl⟩, ⟨rfl, rfl, rfl⟩, ⟨rfl, rfl, rfl⟩, ⟨rfl, rfl, rfl⟩,
   ⟨rfl, rfl, rfl⟩, ⟨rfl, rfl, rfl⟩, ⟨rfl, rfl, rfl⟩, ⟨rfl, rfl, rfl⟩,
   ⟨rfl, rfl, rfl⟩, ⟨rfl, rfl, rfl⟩, ⟨rfl, rfl, rfl⟩, ⟨rfl, rfl, rfl⟩, trivial⟩, rfl⟩

theorem opcodeRow7_standsFor : standsForFrom 0x70 opcodeRow7 ∧ opcodeRow7.length = 16 :=
  ⟨⟨⟨rfl, rfl, rfl⟩, ⟨rfl, rfl, rfl⟩, ⟨rfl, rfl, rfl⟩, ⟨rfl, rfl, rfl⟩,
   ⟨rfl, rfl, rfl⟩, ⟨rfl, rfl, rfl⟩, ⟨rfl, rfl, rfl⟩, ⟨rfl, rfl, rfl⟩,
   ⟨rfl, rfl, rfl⟩, ⟨rfl, rfl, rfl⟩, ⟨rfl, rfl, rfl⟩, ⟨rfl, rfl, rfl⟩,
   ⟨rfl, rfl, rfl⟩, ⟨rfl, rfl, rfl⟩, ⟨rfl, rfl, rfl⟩, ⟨rfl, rfl, rfl⟩, trivial⟩, rfl⟩

theorem opcodeRow8_standsFor : standsForFrom 0x80 opcodeRow8 ∧ opcodeRow8.length = 16 :=
  ⟨⟨⟨rfl, rfl, rfl⟩, ⟨rfl, rfl, rfl⟩, ⟨rfl, rfl, rfl⟩, ⟨rfl, rfl, rfl⟩,
   ⟨rfl, rfl, rfl⟩, ⟨rfl, rfl, rfl⟩, ⟨rfl, rfl, rfl⟩, ⟨rfl, rfl, rfl⟩,
   ⟨rfl, rfl, rfl⟩, ⟨rfl, rfl, rfl⟩, ⟨rfl, rfl, rfl⟩, ⟨rfl, rfl, rfl⟩,
   ⟨rfl, rfl, rfl⟩, ⟨rfl, rfl, rfl⟩, ⟨rfl, rfl, rfl⟩, ⟨rfl, rfl, rfl⟩, trivial⟩, rfl⟩

theorem opcodeRow9_standsFor : standsForFrom 0x90 opcodeRow9 ∧ opcodeRow9.length = 16 :=
  ⟨⟨⟨rfl, rfl, rfl⟩, ⟨rfl, rfl, rfl⟩, ⟨rfl, rfl, rfl⟩, ⟨rfl, rfl, rfl⟩,
   ⟨rfl, rfl, rfl⟩, ⟨rfl, rfl, rfl⟩, ⟨rfl, rfl, rfl⟩, ⟨rfl, rfl, rfl⟩,
   ⟨rfl, rfl, rfl⟩, ⟨rfl, rfl, rfl⟩, ⟨rfl, rfl, rfl⟩, ⟨rfl, rfl, rfl⟩,
   ⟨rfl, rfl, rfl⟩, ⟨rfl, rfl, rfl⟩, ⟨rfl, rfl, rfl⟩, ⟨rfl, rfl, rfl⟩, trivial⟩, rfl⟩

theorem opcodeRowA_standsFor : standsForFrom 0xA0 opcodeRowA ∧ opcodeRowA.length = 16 :=
  ⟨⟨.inr (.inr ⟨rfl, rfl⟩), ⟨rfl, rfl, rfl⟩, .inr (.inl ⟨rfl, rfl⟩), ⟨rfl, rfl, rfl⟩,
   ⟨rfl, rfl, rfl⟩, ⟨rfl, rfl, rfl⟩, ⟨rfl, rfl, rfl⟩, ⟨rfl, rfl, rfl⟩,
   ⟨rfl, rfl, rfl⟩, .inl ⟨rfl, rfl⟩, ⟨rfl, rfl, rfl⟩, ⟨rfl, rfl, rfl⟩,
   ⟨rfl, rfl, rfl⟩, ⟨rfl, rfl, rfl⟩, ⟨rfl, rfl, rfl⟩, ⟨rfl, rfl, rfl⟩, trivial⟩, rfl⟩

theorem opcodeRowB_standsFor : standsForFrom 0xB0 opcodeRowB ∧ opcodeRowB.length = 16 :=
  ⟨⟨⟨rfl, rfl, rfl⟩, ⟨rfl, rfl, rfl⟩, ⟨rfl, rfl, rfl⟩, ⟨rfl, rfl, rfl⟩,
   ⟨rfl, rfl, rfl⟩, ⟨rfl, rfl, rfl⟩, ⟨rfl, rfl, rfl⟩, ⟨rfl, rfl, rfl⟩,
   ⟨rfl, rfl, rfl⟩, ⟨rfl, rfl, rfl⟩, ⟨rfl, rfl, rfl⟩, ⟨rfl, rfl, rfl⟩,
   ⟨rfl, rfl, rfl⟩, ⟨rfl, rfl, rfl⟩, ⟨rfl, rfl, rfl⟩, ⟨rfl, rfl, rfl⟩, trivial⟩, rfl⟩

theorem opcodeRowC_standsFor : standsForFrom 0xC0 opcodeRowC ∧ opcodeRowC.length = 16 :=
  ⟨⟨⟨rfl, rfl, rfl⟩, ⟨rfl, rfl, rfl⟩, ⟨rfl, rfl, rfl⟩, ⟨rfl, rfl, rfl⟩,
   ⟨rfl, rfl, rfl⟩, ⟨rfl, rfl, rfl⟩, ⟨rfl, rfl, rfl⟩, ⟨rfl, rfl, rfl⟩,
   ⟨rfl, rfl, rfl⟩, ⟨rfl, rfl, rfl⟩, ⟨rfl, rfl, rfl⟩, ⟨rfl, rfl, rfl⟩,
   ⟨rfl, rfl, rfl⟩, ⟨rfl, rfl, rfl⟩, ⟨rfl, rfl, rfl⟩, ⟨rfl, rfl, rfl⟩, trivial⟩, rfl⟩

theorem opcodeRowD_standsFor : standsForFrom 0xD0 opcodeRowD ∧ opcodeRowD.length = 16 :=
  ⟨⟨⟨rfl, rfl, rfl⟩, ⟨rfl, rfl, rfl⟩, ⟨rfl, rfl, rfl⟩, ⟨rfl, rfl, rfl⟩,
   ⟨rfl, rfl, rfl⟩, ⟨rfl, rfl, rfl⟩, ⟨rfl, rfl, rfl⟩, ⟨rfl, rfl, rfl⟩,
   ⟨rfl, rfl, rfl⟩, ⟨rfl, rfl, rfl⟩, ⟨rfl, rfl, rfl⟩, ⟨rfl, rfl, rfl⟩,
   ⟨rfl, rfl, rfl⟩, ⟨rfl, rfl, rfl⟩, ⟨rfl, rfl, rfl⟩, ⟨rfl, rfl, rfl⟩, trivial⟩, rfl⟩

theorem opcodeRowE_standsFor : standsForFrom 0xE0 opcodeRowE ∧ opcodeRowE.length = 16 :=
  ⟨⟨⟨rfl, rfl, rfl⟩, ⟨rfl, rfl, rfl⟩, ⟨rfl, rfl, rfl⟩, ⟨rfl, rfl, rfl⟩,
   ⟨rfl, rfl, rfl⟩, ⟨rfl, rfl, rfl⟩, ⟨rfl, rfl, rfl⟩, ⟨rfl, rfl, rfl⟩,
   ⟨rfl, rfl, rfl⟩, ⟨rfl, rfl, rfl⟩, .inl ⟨rfl, rfl⟩, ⟨rfl, rfl, rfl⟩,
   ⟨rfl, rfl, rfl⟩, ⟨rfl, rfl, rfl⟩, ⟨rfl, rfl, rfl⟩, ⟨rfl, rfl, rfl⟩, trivial⟩, rfl⟩

theorem opcodeRowF_standsFor : standsForFrom 0xF0 opcodeRowF ∧ opcodeRowF.length = 16 :=
  ⟨⟨⟨rfl, rfl, rfl⟩, ⟨rfl, rfl, rfl⟩, ⟨rfl, rfl, rfl⟩, ⟨rfl, rfl, rfl⟩,
   ⟨rfl, rfl, rfl⟩, ⟨rfl, rfl, rfl⟩, ⟨rfl, rfl, rfl⟩, ⟨rfl, rfl, rfl⟩,
   ⟨rfl, rfl, rfl⟩, ⟨rfl, rfl, rfl⟩, ⟨rfl, rfl, rfl⟩, ⟨rfl, rfl, rfl⟩,
   ⟨rfl, rfl, rfl⟩, ⟨rfl, rfl, rfl⟩, ⟨rfl, rfl, rfl⟩, ⟨rfl, rfl, rfl⟩, trivial⟩, rfl⟩

theorem opcodeMap_standsFor : standsForFrom 0 opcodeMap := by
  unfold opcodeMap
  exact (standsForFrom_append (standsForFrom_append (standsForFrom_append (standsForFrom_append (standsForFrom_append
    (standsForFrom_append (standsForFrom_append (standsForFrom_append (standsForFrom_append (standsForFrom_append
    (standsForFrom_append (standsForFrom_append (standsForFrom_append (standsForFrom_append (standsForFrom_append
    opcodeRow0_standsFor opcodeRow1_standsFor) opcodeRow2_standsFor) opcodeRow3_standsFor) opcodeRow4_standsFor)
    opcodeRow5_standsFor) opcodeRow6_standsFor) opcodeRow7_standsFor) opcodeRow8_standsFor) opcodeRow9_standsFor)
    opcodeRowA_standsFor) opcodeRowB_standsFor) opcodeRowC_standsFor) opcodeRowD_standsFor) opcodeRowE_standsFor)
    opcodeRowF_standsFor).1

/-- The entry of an unregistered byte is a default entry of that byte, and each registered byte has the entry of its
instruction (R104, R107). -/
theorem entryOf_standsFor (op : Byte) : (entryOf op).standsFor op := by
  have h := standsForFrom_getElem opcodeMap_standsFor (k := op.toNat) (by rw [opcodeMap_length]; exact op.isLt)
  rw [Nat.zero_add, BitVec.ofNat_toNat, BitVec.setWidth_eq] at h
  exact h

@[simp] theorem entryOf_nop : entryOf 0xEA = .imp .nop := rfl
@[simp] theorem entryOf_clc : entryOf 0x18 = .imp .clc := rfl
@[simp] theorem entryOf_sec : entryOf 0x38 = .imp .sec := rfl
@[simp] theorem entryOf_ldaImm : entryOf 0xA9 = .imm8 .ldaImm := rfl
@[simp] theorem entryOf_ldxImm : entryOf 0xA2 = .imm8 .ldxImm := rfl
@[simp] theorem entryOf_ldyImm : entryOf 0xA0 = .imm8 .ldyImm := rfl
@[simp] theorem entryOf_jmpAbs : entryOf 0x4C = .abs16 .jmpAbs := rfl

/-- The entry of an unregistered opcode byte (R107). -/
theorem entryOf_unregistered {op : Byte} (h : op ∉ registeredOpcodes) :
    ∃ i, entryOf op = .dflt i ∧ i.opcode = op ∧ i.isDefault = true ∧ i.operandBytes = [] := by
  have hs := entryOf_standsFor op
  cases he : entryOf op with
  | dflt i => exact ⟨i, rfl, by simpa [he, OpcodeEntry.standsFor] using hs⟩
  | imp i =>
    rw [he] at hs
    rcases hs with hs | hs | hs <;> exact absurd (hs.1 ▸ by decide) h
  | imm8 mk =>
    rw [he] at hs
    rcases hs with hs | hs | hs <;> exact absurd (hs.1 ▸ by decide) h
  | abs16 mk =>
    rw [he] at hs
    exact absurd (hs.1 ▸ by decide) h

/-- The length of an entry is 1, 2 or 3 (R100). -/
theorem instrLength_bounds (op : Byte) : 1 ≤ instrLength op ∧ instrLength op ≤ 3 := by
  unfold instrLength
  cases entryOf op <;> simp [OpcodeEntry.length]

/-- The decoder reads no byte past the length its opcode gives (R106). -/
theorem decodeFrom_congr {f g : Nat → Byte} (h : ∀ k < instrLength (f 0), f k = g k) : decodeFrom f = decodeFrom g := by
  have h0 : f 0 = g 0 := h 0 (by have := instrLength_bounds (f 0); omega)
  unfold decodeFrom
  rw [← h0]
  unfold instrLength at h
  cases he : entryOf (f 0) with
  | dflt i => rfl
  | imp i => rfl
  | imm8 mk =>
    rw [he] at h
    simp only [h 1 (by simp [OpcodeEntry.length])]
  | abs16 mk =>
    rw [he] at h
    simp only [h 1 (by simp [OpcodeEntry.length]), h 2 (by simp [OpcodeEntry.length])]

/-- Decoding a list that holds the whole instruction reads it from the list's bytes. -/
theorem decode_eq {op : Byte} {rest : List Byte} (h : instrLength op ≤ rest.length + 1) :
    decode (op :: rest) =
      .ok (decodeFrom (fun k => (op :: rest).getD k 0), (op :: rest).drop (instrLength op)) := by
  simp [decode, h]

/-- A list that ends inside its first instruction is refused by name. -/
theorem decode_truncated {op : Byte} {rest : List Byte} (h : rest.length + 1 < instrLength op) :
    decode (op :: rest) = .error (.truncated op) := by
  simp [decode, Nat.not_le_of_lt h]

/-- Two bytes joined, as a number: the low byte and 256 times the high byte (R72, R103). -/
theorem joinBytes_toNat (lo hi : Byte) : (joinBytes lo hi).toNat = lo.toNat + 256 * hi.toNat := by
  rw [joinBytes, BitVec.toNat_append, Nat.shiftLeft_eq, Nat.mul_comm, ← Nat.two_pow_add_eq_or_of_lt lo.isLt]
  omega

/-- Two bytes joined, as the word of that number. -/
theorem joinBytes_eq_ofNat (lo hi : Byte) : joinBytes lo hi = BitVec.ofNat 16 (lo.toNat + 256 * hi.toNat) := by
  rw [← joinBytes_toNat, BitVec.ofNat_toNat, BitVec.setWidth_eq]

/-- The low byte of two bytes joined. -/
@[simp] theorem joinBytes_lo (lo hi : Byte) : (joinBytes lo hi).extractLsb' 0 8 = lo := by
  apply BitVec.eq_of_toNat_eq
  rw [BitVec.extractLsb'_toNat, joinBytes_toNat, Nat.shiftRight_zero]
  have := lo.isLt
  omega

/-- The high byte of two bytes joined. -/
@[simp] theorem joinBytes_hi (lo hi : Byte) : (joinBytes lo hi).extractLsb' 8 8 = hi := by
  apply BitVec.eq_of_toNat_eq
  rw [BitVec.extractLsb'_toNat, joinBytes_toNat, Nat.shiftRight_eq_div_pow]
  have := lo.isLt
  have := hi.isLt
  omega

end Sys2Proof
end

