-- ==== Sys2Proof/Laws/Memory.lean ====
section
/-! SUPPORT. Byte arrays: what a write leaves at every index, and that each array operation keeps the canonical form
and the array's bound. -/

namespace Sys2Proof.Machine

@[simp] theorem Memory.read_nil (a : Nat) : Memory.read [] a = 0 := rfl

theorem Memory.wfFrom_mono {lo lo' : Nat} (h : lo' ≤ lo) {m : Memory} (hm : m.wfFrom lo = true) :
    m.wfFrom lo' = true := by
  cases m with
  | nil => rfl
  | cons c m =>
    simp only [Memory.wfFrom, Bool.and_eq_true, decide_eq_true_eq] at hm ⊢
    exact ⟨⟨by omega, hm.1.2⟩, hm.2⟩

/-- Below the first index of a canonical array every byte is 0x00. -/
theorem Memory.read_below {lo a : Nat} {m : Memory} (hm : m.wfFrom lo = true) (ha : a < lo) : m.read a = 0 := by
  cases m with
  | nil => rfl
  | cons c m =>
    simp only [Memory.wfFrom, Bool.and_eq_true, decide_eq_true_eq] at hm
    simp [Memory.read, show a < c.1 by omega]

/-- A cell in front of an array that begins above it. -/
theorem Memory.read_cell_append {a : Nat} {m : Memory} (hm : m.wfFrom (a + 1) = true) (v : Byte) (b : Nat) :
    Memory.read (Memory.cell a v ++ m) b = if b = a then v else m.read b := by
  unfold Memory.cell
  split
  · subst v
    by_cases hb : b = a
    · simp [hb, Memory.read_below hm (Nat.lt_succ_self a)]
    · simp [hb]
  · rcases Nat.lt_trichotomy b a with h | h | h
    · simp [Memory.read, h, Nat.ne_of_lt h, Memory.read_below hm (Nat.lt_succ_of_lt h)]
    · simp [Memory.read, h]
    · simp [Memory.read, Nat.not_lt_of_lt h, Nat.ne_of_gt h]

theorem Memory.cell_append_wf {lo a : Nat} (h : lo ≤ a) {m : Memory} (hm : m.wfFrom (a + 1) = true) (v : Byte) :
    Memory.wfFrom lo (Memory.cell a v ++ m) = true := by
  unfold Memory.cell
  split
  · exact Memory.wfFrom_mono (by omega) hm
  · rename_i hv
    simp only [Memory.wfFrom, List.cons_append, List.nil_append, h, hm, decide_true, Bool.and_true, Bool.true_and,
      decide_eq_true_eq]
    exact hv

/-- What a canonical array reads after a write: the byte written at its index, every other byte as before. -/
theorem Memory.read_write {lo : Nat} {m : Memory} (hm : m.wfFrom lo = true) (a b : Nat) (v : Byte) :
    (m.write a v).read b = if b = a then v else m.read b := by
  induction m generalizing lo with
  | nil => simpa [Memory.write] using Memory.read_cell_append (m := []) (a := a) rfl v b
  | cons c m ih =>
    obtain ⟨k, w⟩ := c
    simp only [Memory.wfFrom, Bool.and_eq_true, decide_eq_true_eq] at hm
    simp only [Memory.write]
    by_cases h1 : a < k
    · rw [if_pos h1]
      refine Memory.read_cell_append ?_ v b
      simp only [Memory.wfFrom, Bool.and_eq_true, decide_eq_true_eq]
      exact ⟨⟨h1, hm.1.2⟩, hm.2⟩
    · by_cases h2 : a = k
      · subst h2
        rw [if_neg h1, if_pos rfl, Memory.read_cell_append hm.2]
        by_cases hb : b = a
        · simp [hb]
        · rcases Nat.lt_or_gt_of_ne hb with h | h
          · simp [hb, Memory.read, h, Memory.read_below hm.2 (Nat.lt_succ_of_lt h)]
          · simp [hb, Memory.read, Nat.not_lt_of_lt h]
      · rw [if_neg h1, if_neg h2]
        simp only [Memory.read, ih hm.2]
        by_cases hb : b = a
        · simp [hb, h1, h2]
        · simp [hb]

/-- A write keeps the canonical form. -/
theorem Memory.write_wfFrom {lo a : Nat} (h : lo ≤ a) {m : Memory} (hm : m.wfFrom lo = true) (v : Byte) :
    (m.write a v).wfFrom lo = true := by
  induction m generalizing lo with
  | nil => simpa [Memory.write] using Memory.cell_append_wf h (m := []) rfl v
  | cons c m ih =>
    obtain ⟨k, w⟩ := c
    simp only [Memory.wfFrom, Bool.and_eq_true, decide_eq_true_eq] at hm
    simp only [Memory.write]
    split_ifs with h1 h2
    · refine Memory.cell_append_wf h ?_ v
      simp only [Memory.wfFrom, Bool.and_eq_true, decide_eq_true_eq]
      exact ⟨⟨h1, hm.1.2⟩, hm.2⟩
    · subst h2
      exact Memory.cell_append_wf h hm.2 v
    · simp only [Memory.wfFrom, Bool.and_eq_true, decide_eq_true_eq]
      exact ⟨hm.1, ih (by omega) hm.2⟩

theorem Memory.write_wf {m : Memory} (hm : m.wf = true) (a : Nat) (v : Byte) : (m.write a v).wf = true :=
  Memory.write_wfFrom (Nat.zero_le a) hm v

theorem Memory.cell_within {n a : Nat} (h : a < n) (v : Byte) : Memory.within n (Memory.cell a v) = true := by
  unfold Memory.cell
  split <;> simp [Memory.within, h]

theorem Memory.append_within {n : Nat} {m m' : Memory} (hm : Memory.within n m = true) (hm' : Memory.within n m' = true) :
    Memory.within n (m ++ m') = true := by
  simp only [Memory.within, List.all_append, Bool.and_eq_true] at *
  exact ⟨hm, hm'⟩

/-- A write inside the array keeps its bound. -/
theorem Memory.write_within {n a : Nat} (h : a < n) {m : Memory} (hm : Memory.within n m = true) (v : Byte) :
    Memory.within n (m.write a v) = true := by
  induction m with
  | nil => exact Memory.cell_within h v
  | cons c m ih =>
    obtain ⟨k, w⟩ := c
    have hm' : Memory.within n m = true := by simp [Memory.within] at hm ⊢; exact hm.2
    simp only [Memory.write]
    split_ifs
    · exact Memory.append_within (Memory.cell_within h v) hm
    · exact Memory.append_within (Memory.cell_within h v) hm'
    · have := ih hm'
      simp [Memory.within] at hm this ⊢
      exact ⟨hm.1, this⟩

/-- The array of a list of bytes is canonical from its first index on. -/
theorem Memory.ofBytes_wfFrom (a : Nat) (vs : List Byte) : (Memory.ofBytes a vs).wfFrom a = true := by
  induction vs generalizing a with
  | nil => rfl
  | cons v vs ih => exact Memory.cell_append_wf (Nat.le_refl a) (ih (a + 1)) v

/-- The array of a list of bytes lies below its end. -/
theorem Memory.ofBytes_within (a : Nat) (vs : List Byte) : Memory.within (a + vs.length) (Memory.ofBytes a vs) = true := by
  induction vs generalizing a with
  | nil => rfl
  | cons v vs ih =>
    refine Memory.append_within (Memory.cell_within (by simp) v) ?_
    have := ih (a + 1)
    rwa [show a + 1 + vs.length = a + (v :: vs).length by simp; omega] at this

/-- The array of a list of bytes reads each of them back, and 0x00 past the end. -/
theorem Memory.read_ofBytes (a k : Nat) (vs : List Byte) : (Memory.ofBytes a vs).read (a + k) = vs.getD k 0 := by
  induction vs generalizing a k with
  | nil => simp [Memory.ofBytes]
  | cons v vs ih =>
    rw [Memory.ofBytes, Memory.read_cell_append (Memory.ofBytes_wfFrom (a + 1) vs)]
    cases k with
    | zero => simp
    | succ k =>
      have := ih (a + 1) k
      rw [show a + 1 + k = a + (k + 1) by omega] at this
      simp [this]

/-- Two canonical arrays that read the same everywhere are the same list (log 13). -/
theorem Memory.ext_of_wfFrom {lo : Nat} {m m' : Memory} (hm : m.wfFrom lo = true) (hm' : m'.wfFrom lo = true)
    (h : ∀ a, m.read a = m'.read a) : m = m' := by
  induction m generalizing lo m' with
  | nil =>
    cases m' with
    | nil => rfl
    | cons c m' =>
      simp only [Memory.wfFrom, Bool.and_eq_true, decide_eq_true_eq] at hm'
      have := h c.1
      simp [Memory.read] at this
      exact absurd this.symm hm'.1.2
  | cons c m ih =>
    obtain ⟨k, w⟩ := c
    simp only [Memory.wfFrom, Bool.and_eq_true, decide_eq_true_eq] at hm
    cases m' with
    | nil =>
      have := h k
      simp [Memory.read] at this
      exact absurd this hm.1.2
    | cons c' m' =>
      obtain ⟨k', w'⟩ := c'
      simp only [Memory.wfFrom, Bool.and_eq_true, decide_eq_true_eq] at hm'
      have hk : k = k' := by
        rcases Nat.lt_trichotomy k k' with hlt | heq | hgt
        · have := h k
          simp [Memory.read, hlt] at this
          exact absurd this hm.1.2
        · exact heq
        · have := h k'
          simp [Memory.read, hgt] at this
          exact absurd this.symm hm'.1.2
      subst hk
      have hw : w = w' := by simpa [Memory.read] using h k
      subst hw
      congr 1
      refine ih hm.2 hm'.2 fun a => ?_
      rcases Nat.lt_or_ge a (k + 1) with hlt | hge
      · rw [Memory.read_below hm.2 hlt, Memory.read_below hm'.2 hlt]
      · have := h a
        simpa [Memory.read, show ¬ a < k by omega, show ¬ a = k by omega] using this

end Sys2Proof.Machine
end

