-- ==== Sys2Proof/Laws/State.lean ====
section
/-! SUPPORT. One lemma per field of State per register update: what the update leaves in that field. -/

namespace Sys2Proof.Machine

@[simp] theorem State.advancePc_a (s : State) (n : Nat) : (s.advancePc n).a = s.a := rfl
@[simp] theorem State.advancePc_x (s : State) (n : Nat) : (s.advancePc n).x = s.x := rfl
@[simp] theorem State.advancePc_y (s : State) (n : Nat) : (s.advancePc n).y = s.y := rfl
@[simp] theorem State.advancePc_sp (s : State) (n : Nat) : (s.advancePc n).sp = s.sp := rfl
@[simp] theorem State.advancePc_pc (s : State) (n : Nat) : (s.advancePc n).pc = s.pc + BitVec.ofNat 16 n := rfl
@[simp] theorem State.advancePc_pb (s : State) (n : Nat) : (s.advancePc n).pb = s.pb := rfl
@[simp] theorem State.advancePc_db (s : State) (n : Nat) : (s.advancePc n).db = s.db := rfl
@[simp] theorem State.advancePc_p (s : State) (n : Nat) : (s.advancePc n).p = s.p := rfl
@[simp] theorem State.advancePc_e (s : State) (n : Nat) : (s.advancePc n).e = s.e := rfl
@[simp] theorem State.advancePc_cyc (s : State) (n : Nat) : (s.advancePc n).cyc = s.cyc := rfl
@[simp] theorem State.advancePc_wram (s : State) (n : Nat) : (s.advancePc n).wram = s.wram := rfl
@[simp] theorem State.advancePc_sram (s : State) (n : Nat) : (s.advancePc n).sram = s.sram := rfl
@[simp] theorem State.advancePc_vram (s : State) (n : Nat) : (s.advancePc n).vram = s.vram := rfl
@[simp] theorem State.advancePc_cgram (s : State) (n : Nat) : (s.advancePc n).cgram = s.cgram := rfl
@[simp] theorem State.advancePc_oam (s : State) (n : Nat) : (s.advancePc n).oam = s.oam := rfl
@[simp] theorem State.advancePc_rom (s : State) (n : Nat) : (s.advancePc n).rom = s.rom := rfl
@[simp] theorem State.advancePc_scanline (s : State) (n : Nat) : (s.advancePc n).scanline = s.scanline := rfl
@[simp] theorem State.advancePc_bgMode (s : State) (n : Nat) : (s.advancePc n).bgMode = s.bgMode := rfl
@[simp] theorem State.advancePc_brightness (s : State) (n : Nat) : (s.advancePc n).brightness = s.brightness := rfl
@[simp] theorem State.advancePc_fb (s : State) (n : Nat) : (s.advancePc n).fb = s.fb := rfl
@[simp] theorem State.advancePc_btn (s : State) (n : Nat) : (s.advancePc n).btn = s.btn := rfl

@[simp] theorem State.setPc_a (s : State) (v : Word) : (s.setPc v).a = s.a := rfl
@[simp] theorem State.setPc_x (s : State) (v : Word) : (s.setPc v).x = s.x := rfl
@[simp] theorem State.setPc_y (s : State) (v : Word) : (s.setPc v).y = s.y := rfl
@[simp] theorem State.setPc_sp (s : State) (v : Word) : (s.setPc v).sp = s.sp := rfl
@[simp] theorem State.setPc_pc (s : State) (v : Word) : (s.setPc v).pc = v := rfl
@[simp] theorem State.setPc_pb (s : State) (v : Word) : (s.setPc v).pb = s.pb := rfl
@[simp] theorem State.setPc_db (s : State) (v : Word) : (s.setPc v).db = s.db := rfl
@[simp] theorem State.setPc_p (s : State) (v : Word) : (s.setPc v).p = s.p := rfl
@[simp] theorem State.setPc_e (s : State) (v : Word) : (s.setPc v).e = s.e := rfl
@[simp] theorem State.setPc_cyc (s : State) (v : Word) : (s.setPc v).cyc = s.cyc := rfl
@[simp] theorem State.setPc_wram (s : State) (v : Word) : (s.setPc v).wram = s.wram := rfl
@[simp] theorem State.setPc_sram (s : State) (v : Word) : (s.setPc v).sram = s.sram := rfl
@[simp] theorem State.setPc_vram (s : State) (v : Word) : (s.setPc v).vram = s.vram := rfl
@[simp] theorem State.setPc_cgram (s : State) (v : Word) : (s.setPc v).cgram = s.cgram := rfl
@[simp] theorem State.setPc_oam (s : State) (v : Word) : (s.setPc v).oam = s.oam := rfl
@[simp] theorem State.setPc_rom (s : State) (v : Word) : (s.setPc v).rom = s.rom := rfl
@[simp] theorem State.setPc_scanline (s : State) (v : Word) : (s.setPc v).scanline = s.scanline := rfl
@[simp] theorem State.setPc_bgMode (s : State) (v : Word) : (s.setPc v).bgMode = s.bgMode := rfl
@[simp] theorem State.setPc_brightness (s : State) (v : Word) : (s.setPc v).brightness = s.brightness := rfl
@[simp] theorem State.setPc_fb (s : State) (v : Word) : (s.setPc v).fb = s.fb := rfl
@[simp] theorem State.setPc_btn (s : State) (v : Word) : (s.setPc v).btn = s.btn := rfl

@[simp] theorem State.setA_a (s : State) (v : Word) : (s.setA v).a = v := rfl
@[simp] theorem State.setA_x (s : State) (v : Word) : (s.setA v).x = s.x := rfl
@[simp] theorem State.setA_y (s : State) (v : Word) : (s.setA v).y = s.y := rfl
@[simp] theorem State.setA_sp (s : State) (v : Word) : (s.setA v).sp = s.sp := rfl
@[simp] theorem State.setA_pc (s : State) (v : Word) : (s.setA v).pc = s.pc := rfl
@[simp] theorem State.setA_pb (s : State) (v : Word) : (s.setA v).pb = s.pb := rfl
@[simp] theorem State.setA_db (s : State) (v : Word) : (s.setA v).db = s.db := rfl
@[simp] theorem State.setA_p (s : State) (v : Word) : (s.setA v).p = s.p := rfl
@[simp] theorem State.setA_e (s : State) (v : Word) : (s.setA v).e = s.e := rfl
@[simp] theorem State.setA_cyc (s : State) (v : Word) : (s.setA v).cyc = s.cyc := rfl
@[simp] theorem State.setA_wram (s : State) (v : Word) : (s.setA v).wram = s.wram := rfl
@[simp] theorem State.setA_sram (s : State) (v : Word) : (s.setA v).sram = s.sram := rfl
@[simp] theorem State.setA_vram (s : State) (v : Word) : (s.setA v).vram = s.vram := rfl
@[simp] theorem State.setA_cgram (s : State) (v : Word) : (s.setA v).cgram = s.cgram := rfl
@[simp] theorem State.setA_oam (s : State) (v : Word) : (s.setA v).oam = s.oam := rfl
@[simp] theorem State.setA_rom (s : State) (v : Word) : (s.setA v).rom = s.rom := rfl
@[simp] theorem State.setA_scanline (s : State) (v : Word) : (s.setA v).scanline = s.scanline := rfl
@[simp] theorem State.setA_bgMode (s : State) (v : Word) : (s.setA v).bgMode = s.bgMode := rfl
@[simp] theorem State.setA_brightness (s : State) (v : Word) : (s.setA v).brightness = s.brightness := rfl
@[simp] theorem State.setA_fb (s : State) (v : Word) : (s.setA v).fb = s.fb := rfl
@[simp] theorem State.setA_btn (s : State) (v : Word) : (s.setA v).btn = s.btn := rfl

@[simp] theorem State.setX_a (s : State) (v : Word) : (s.setX v).a = s.a := rfl
@[simp] theorem State.setX_x (s : State) (v : Word) : (s.setX v).x = v := rfl
@[simp] theorem State.setX_y (s : State) (v : Word) : (s.setX v).y = s.y := rfl
@[simp] theorem State.setX_sp (s : State) (v : Word) : (s.setX v).sp = s.sp := rfl
@[simp] theorem State.setX_pc (s : State) (v : Word) : (s.setX v).pc = s.pc := rfl
@[simp] theorem State.setX_pb (s : State) (v : Word) : (s.setX v).pb = s.pb := rfl
@[simp] theorem State.setX_db (s : State) (v : Word) : (s.setX v).db = s.db := rfl
@[simp] theorem State.setX_p (s : State) (v : Word) : (s.setX v).p = s.p := rfl
@[simp] theorem State.setX_e (s : State) (v : Word) : (s.setX v).e = s.e := rfl
@[simp] theorem State.setX_cyc (s : State) (v : Word) : (s.setX v).cyc = s.cyc := rfl
@[simp] theorem State.setX_wram (s : State) (v : Word) : (s.setX v).wram = s.wram := rfl
@[simp] theorem State.setX_sram (s : State) (v : Word) : (s.setX v).sram = s.sram := rfl
@[simp] theorem State.setX_vram (s : State) (v : Word) : (s.setX v).vram = s.vram := rfl
@[simp] theorem State.setX_cgram (s : State) (v : Word) : (s.setX v).cgram = s.cgram := rfl
@[simp] theorem State.setX_oam (s : State) (v : Word) : (s.setX v).oam = s.oam := rfl
@[simp] theorem State.setX_rom (s : State) (v : Word) : (s.setX v).rom = s.rom := rfl
@[simp] theorem State.setX_scanline (s : State) (v : Word) : (s.setX v).scanline = s.scanline := rfl
@[simp] theorem State.setX_bgMode (s : State) (v : Word) : (s.setX v).bgMode = s.bgMode := rfl
@[simp] theorem State.setX_brightness (s : State) (v : Word) : (s.setX v).brightness = s.brightness := rfl
@[simp] theorem State.setX_fb (s : State) (v : Word) : (s.setX v).fb = s.fb := rfl
@[simp] theorem State.setX_btn (s : State) (v : Word) : (s.setX v).btn = s.btn := rfl

@[simp] theorem State.setY_a (s : State) (v : Word) : (s.setY v).a = s.a := rfl
@[simp] theorem State.setY_x (s : State) (v : Word) : (s.setY v).x = s.x := rfl
@[simp] theorem State.setY_y (s : State) (v : Word) : (s.setY v).y = v := rfl
@[simp] theorem State.setY_sp (s : State) (v : Word) : (s.setY v).sp = s.sp := rfl
@[simp] theorem State.setY_pc (s : State) (v : Word) : (s.setY v).pc = s.pc := rfl
@[simp] theorem State.setY_pb (s : State) (v : Word) : (s.setY v).pb = s.pb := rfl
@[simp] theorem State.setY_db (s : State) (v : Word) : (s.setY v).db = s.db := rfl
@[simp] theorem State.setY_p (s : State) (v : Word) : (s.setY v).p = s.p := rfl
@[simp] theorem State.setY_e (s : State) (v : Word) : (s.setY v).e = s.e := rfl
@[simp] theorem State.setY_cyc (s : State) (v : Word) : (s.setY v).cyc = s.cyc := rfl
@[simp] theorem State.setY_wram (s : State) (v : Word) : (s.setY v).wram = s.wram := rfl
@[simp] theorem State.setY_sram (s : State) (v : Word) : (s.setY v).sram = s.sram := rfl
@[simp] theorem State.setY_vram (s : State) (v : Word) : (s.setY v).vram = s.vram := rfl
@[simp] theorem State.setY_cgram (s : State) (v : Word) : (s.setY v).cgram = s.cgram := rfl
@[simp] theorem State.setY_oam (s : State) (v : Word) : (s.setY v).oam = s.oam := rfl
@[simp] theorem State.setY_rom (s : State) (v : Word) : (s.setY v).rom = s.rom := rfl
@[simp] theorem State.setY_scanline (s : State) (v : Word) : (s.setY v).scanline = s.scanline := rfl
@[simp] theorem State.setY_bgMode (s : State) (v : Word) : (s.setY v).bgMode = s.bgMode := rfl
@[simp] theorem State.setY_brightness (s : State) (v : Word) : (s.setY v).brightness = s.brightness := rfl
@[simp] theorem State.setY_fb (s : State) (v : Word) : (s.setY v).fb = s.fb := rfl
@[simp] theorem State.setY_btn (s : State) (v : Word) : (s.setY v).btn = s.btn := rfl

@[simp] theorem State.setP_a (s : State) (v : Byte) : (s.setP v).a = s.a := rfl
@[simp] theorem State.setP_x (s : State) (v : Byte) : (s.setP v).x = s.x := rfl
@[simp] theorem State.setP_y (s : State) (v : Byte) : (s.setP v).y = s.y := rfl
@[simp] theorem State.setP_sp (s : State) (v : Byte) : (s.setP v).sp = s.sp := rfl
@[simp] theorem State.setP_pc (s : State) (v : Byte) : (s.setP v).pc = s.pc := rfl
@[simp] theorem State.setP_pb (s : State) (v : Byte) : (s.setP v).pb = s.pb := rfl
@[simp] theorem State.setP_db (s : State) (v : Byte) : (s.setP v).db = s.db := rfl
@[simp] theorem State.setP_p (s : State) (v : Byte) : (s.setP v).p = v := rfl
@[simp] theorem State.setP_e (s : State) (v : Byte) : (s.setP v).e = s.e := rfl
@[simp] theorem State.setP_cyc (s : State) (v : Byte) : (s.setP v).cyc = s.cyc := rfl
@[simp] theorem State.setP_wram (s : State) (v : Byte) : (s.setP v).wram = s.wram := rfl
@[simp] theorem State.setP_sram (s : State) (v : Byte) : (s.setP v).sram = s.sram := rfl
@[simp] theorem State.setP_vram (s : State) (v : Byte) : (s.setP v).vram = s.vram := rfl
@[simp] theorem State.setP_cgram (s : State) (v : Byte) : (s.setP v).cgram = s.cgram := rfl
@[simp] theorem State.setP_oam (s : State) (v : Byte) : (s.setP v).oam = s.oam := rfl
@[simp] theorem State.setP_rom (s : State) (v : Byte) : (s.setP v).rom = s.rom := rfl
@[simp] theorem State.setP_scanline (s : State) (v : Byte) : (s.setP v).scanline = s.scanline := rfl
@[simp] theorem State.setP_bgMode (s : State) (v : Byte) : (s.setP v).bgMode = s.bgMode := rfl
@[simp] theorem State.setP_brightness (s : State) (v : Byte) : (s.setP v).brightness = s.brightness := rfl
@[simp] theorem State.setP_fb (s : State) (v : Byte) : (s.setP v).fb = s.fb := rfl
@[simp] theorem State.setP_btn (s : State) (v : Byte) : (s.setP v).btn = s.btn := rfl

@[simp] theorem State.addCycles_a (s : State) (n : Nat) : (s.addCycles n).a = s.a := rfl
@[simp] theorem State.addCycles_x (s : State) (n : Nat) : (s.addCycles n).x = s.x := rfl
@[simp] theorem State.addCycles_y (s : State) (n : Nat) : (s.addCycles n).y = s.y := rfl
@[simp] theorem State.addCycles_sp (s : State) (n : Nat) : (s.addCycles n).sp = s.sp := rfl
@[simp] theorem State.addCycles_pc (s : State) (n : Nat) : (s.addCycles n).pc = s.pc := rfl
@[simp] theorem State.addCycles_pb (s : State) (n : Nat) : (s.addCycles n).pb = s.pb := rfl
@[simp] theorem State.addCycles_db (s : State) (n : Nat) : (s.addCycles n).db = s.db := rfl
@[simp] theorem State.addCycles_p (s : State) (n : Nat) : (s.addCycles n).p = s.p := rfl
@[simp] theorem State.addCycles_e (s : State) (n : Nat) : (s.addCycles n).e = s.e := rfl
@[simp] theorem State.addCycles_cyc (s : State) (n : Nat) : (s.addCycles n).cyc = s.cyc + n := rfl
@[simp] theorem State.addCycles_wram (s : State) (n : Nat) : (s.addCycles n).wram = s.wram := rfl
@[simp] theorem State.addCycles_sram (s : State) (n : Nat) : (s.addCycles n).sram = s.sram := rfl
@[simp] theorem State.addCycles_vram (s : State) (n : Nat) : (s.addCycles n).vram = s.vram := rfl
@[simp] theorem State.addCycles_cgram (s : State) (n : Nat) : (s.addCycles n).cgram = s.cgram := rfl
@[simp] theorem State.addCycles_oam (s : State) (n : Nat) : (s.addCycles n).oam = s.oam := rfl
@[simp] theorem State.addCycles_rom (s : State) (n : Nat) : (s.addCycles n).rom = s.rom := rfl
@[simp] theorem State.addCycles_scanline (s : State) (n : Nat) : (s.addCycles n).scanline = s.scanline := rfl
@[simp] theorem State.addCycles_bgMode (s : State) (n : Nat) : (s.addCycles n).bgMode = s.bgMode := rfl
@[simp] theorem State.addCycles_brightness (s : State) (n : Nat) : (s.addCycles n).brightness = s.brightness := rfl
@[simp] theorem State.addCycles_fb (s : State) (n : Nat) : (s.addCycles n).fb = s.fb := rfl
@[simp] theorem State.addCycles_btn (s : State) (n : Nat) : (s.addCycles n).btn = s.btn := rfl

@[simp] theorem State.cpuReset_a (s : State) : (s.cpuReset).a = s.a := rfl
@[simp] theorem State.cpuReset_x (s : State) : (s.cpuReset).x = s.x := rfl
@[simp] theorem State.cpuReset_y (s : State) : (s.cpuReset).y = s.y := rfl
@[simp] theorem State.cpuReset_sp (s : State) : (s.cpuReset).sp = 0x01FF := rfl
@[simp] theorem State.cpuReset_pc (s : State) : (s.cpuReset).pc = joinBytes (s.memRead 0x00FFFC) (s.memRead 0x00FFFD) := rfl
@[simp] theorem State.cpuReset_pb (s : State) : (s.cpuReset).pb = 0x00 := rfl
@[simp] theorem State.cpuReset_db (s : State) : (s.cpuReset).db = s.db := rfl
@[simp] theorem State.cpuReset_p (s : State) : (s.cpuReset).p = 0x34 := rfl
@[simp] theorem State.cpuReset_e (s : State) : (s.cpuReset).e = true := rfl
@[simp] theorem State.cpuReset_cyc (s : State) : (s.cpuReset).cyc = s.cyc := rfl
@[simp] theorem State.cpuReset_wram (s : State) : (s.cpuReset).wram = s.wram := rfl
@[simp] theorem State.cpuReset_sram (s : State) : (s.cpuReset).sram = s.sram := rfl
@[simp] theorem State.cpuReset_vram (s : State) : (s.cpuReset).vram = s.vram := rfl
@[simp] theorem State.cpuReset_cgram (s : State) : (s.cpuReset).cgram = s.cgram := rfl
@[simp] theorem State.cpuReset_oam (s : State) : (s.cpuReset).oam = s.oam := rfl
@[simp] theorem State.cpuReset_rom (s : State) : (s.cpuReset).rom = s.rom := rfl
@[simp] theorem State.cpuReset_scanline (s : State) : (s.cpuReset).scanline = s.scanline := rfl
@[simp] theorem State.cpuReset_bgMode (s : State) : (s.cpuReset).bgMode = s.bgMode := rfl
@[simp] theorem State.cpuReset_brightness (s : State) : (s.cpuReset).brightness = s.brightness := rfl
@[simp] theorem State.cpuReset_fb (s : State) : (s.cpuReset).fb = s.fb := rfl
@[simp] theorem State.cpuReset_btn (s : State) : (s.cpuReset).btn = s.btn := rfl

end Sys2Proof.Machine
end

