-- ==== Sys2Proof/Laws/Ops.lean ====
section
/-! SUPPORT. The address decoder, memory access and CpuReset: once for each, everything it can answer. -/

namespace Sys2Proof.Machine

@[simp] theorem bankOf_mkAddr (bank : Byte) (offset : Word) : bankOf (mkAddr bank offset) = bank := by
  apply BitVec.eq_of_toNat_eq
  simp only [bankOf, mkAddr, BitVec.extractLsb'_toNat, BitVec.toNat_append, Nat.shiftRight_eq_div_pow]
  rw [Nat.shiftLeft_eq, Nat.mul_comm, ← Nat.two_pow_add_eq_or_of_lt offset.isLt]
  have := bank.isLt
  have := offset.isLt
  omega

@[simp] theorem offsetOf_mkAddr (bank : Byte) (offset : Word) : offsetOf (mkAddr bank offset) = offset := by
  apply BitVec.eq_of_toNat_eq
  simp only [offsetOf, mkAddr, BitVec.extractLsb'_toNat, BitVec.toNat_append, Nat.shiftRight_eq_div_pow]
  rw [Nat.shiftLeft_eq, Nat.mul_comm, ← Nat.two_pow_add_eq_or_of_lt offset.isLt]
  have := offset.isLt
  omega

/-- An existing byte of an existing bank is a ROM target, any other is unmapped (R63, R64). -/
theorem State.romTarget_cases (s : State) (b i : Nat) :
    (b < s.rom.length ∧ i < s.romLen b ∧ s.romTarget b i = .rom b i) ∨
      (¬ (b < s.rom.length ∧ i < s.romLen b) ∧ s.romTarget b i = .unmapped) := by
  unfold State.romTarget
  split
  · rename_i h; exact .inl ⟨h.1, h.2, rfl⟩
  · rename_i h; exact .inr ⟨h, rfl⟩

/-- Where the decoder can route an address: a byte of WRAM, an existing byte of ROM, or nowhere. -/
theorem State.decodeAddr_cases (s : State) (addr : Addr) :
    (∃ j, j < Config.wramSize ∧ s.decodeAddr addr = .wram j) ∨
      (∃ b i, b < s.rom.length ∧ i < s.romLen b ∧ s.decodeAddr addr = .rom b i) ∨ s.decodeAddr addr = .unmapped := by
  have hb := (bankOf addr).isLt
  have ho := (offsetOf addr).isLt
  unfold State.decodeAddr
  dsimp only
  split_ifs with h1 h2 h3 h4
  · exact .inl ⟨_, by unfold Config.wramSize; omega, rfl⟩
  · exact .inl ⟨_, by unfold Config.wramSize; omega, rfl⟩
  · rcases s.romTarget_cases ((bankOf addr).toNat - 0x80) ((offsetOf addr).toNat - 0x8000) with h | h
    · exact .inr (.inl ⟨_, _, h⟩)
    · exact .inr (.inr h.2)
  · rcases s.romTarget_cases (bankOf addr).toNat ((offsetOf addr).toNat - 0x8000) with h | h
    · exact .inr (.inl ⟨_, _, h⟩)
    · exact .inr (.inr h.2)
  · exact .inr (.inr rfl)

/-- The decoder reads nothing of the state but the ROM's banks (R66). -/
theorem State.decodeAddr_congr {s t : State} (h : s.rom = t.rom) (addr : Addr) : s.decodeAddr addr = t.decodeAddr addr := by
  cases s; cases t; cases h; rfl

/-- A read depends on WRAM and ROM alone (R65, R67). -/
theorem State.memRead_congr {s t : State} (hr : s.rom = t.rom) (hw : s.wram = t.wram) (addr : Addr) :
    s.memRead addr = t.memRead addr := by
  simp only [State.memRead, State.decodeAddr_congr hr, State.romByte, hr, hw]

theorem State.memRead_wram {s : State} {addr : Addr} {j : Nat} (h : s.decodeAddr addr = .wram j) :
    s.memRead addr = s.wram.read j := by
  simp only [State.memRead, h]

theorem State.memRead_rom {s : State} {addr : Addr} {b i : Nat} (h : s.decodeAddr addr = .rom b i) :
    s.memRead addr = s.romByte b i := by
  simp only [State.memRead, h]

theorem State.memRead_unmapped {s : State} {addr : Addr} (h : s.decodeAddr addr = .unmapped) : s.memRead addr = 0 := by
  simp only [State.memRead, h]

theorem State.memWrite_wram {s : State} {addr : Addr} {j : Nat} (h : s.decodeAddr addr = .wram j) (v : Byte) :
    s.memWrite addr v = { s with wram := s.wram.write j v } := by
  simp only [State.memWrite, h]

theorem State.memWrite_other {s : State} {addr : Addr} (h : s.isWram addr = false) (v : Byte) :
    s.memWrite addr v = s := by
  unfold State.isWram at h
  unfold State.memWrite
  cases hd : s.decodeAddr addr <;> simp_all

/-- A write changes WRAM at most. -/
theorem State.memWrite_eq (s : State) (addr : Addr) (v : Byte) :
    s.memWrite addr v = { s with wram := (s.memWrite addr v).wram } := by
  unfold State.memWrite
  cases s.decodeAddr addr <;> rfl

@[simp] theorem State.memWrite_rom (s : State) (addr : Addr) (v : Byte) : (s.memWrite addr v).rom = s.rom := by
  rw [State.memWrite_eq]

/-- The register a memory write leaves: each of them (R68). -/
@[simp] theorem State.memWrite_pc (s : State) (addr : Addr) (v : Byte) : (s.memWrite addr v).pc = s.pc := by
  rw [State.memWrite_eq]

@[simp] theorem State.memWrite_pb (s : State) (addr : Addr) (v : Byte) : (s.memWrite addr v).pb = s.pb := by
  rw [State.memWrite_eq]

/-- A write keeps WRAM canonical (log 13). -/
theorem State.memWrite_wf {s : State} (h : s.wram.wf = true) (addr : Addr) (v : Byte) :
    (s.memWrite addr v).wram.wf = true := by
  unfold State.memWrite
  cases s.decodeAddr addr with
  | wram j => exact Memory.write_wf h j v
  | rom b i => exact h
  | unmapped => exact h

/-- CpuReset again changes nothing: the vector is read from memory it does not write (R261). -/
theorem State.cpuReset_memRead (s : State) (addr : Addr) : s.cpuReset.memRead addr = s.memRead addr :=
  State.memRead_congr rfl rfl addr

end Sys2Proof.Machine
end

