-- ==== Sys2Proof/Laws/Fetch.lean ====
section
/-! SUPPORT. Fetching: the bytes at PC, the instruction they are for each kind of opcode byte, and the operand value of
a load. -/

namespace Sys2Proof.Machine

@[simp] theorem State.fetchAddr_zero (s : State) : s.fetchAddr 0 = mkAddr s.pb s.pc := by
  simp [State.fetchAddr]

/-- The opcode byte is at PB:PC (R28). -/
theorem State.instrByte_zero (s : State) : s.instrByte 0 = s.memRead (mkAddr s.pb s.pc) := by
  simp [State.instrByte]

/-- The first operand byte is at the next offset of the bank (R100). -/
theorem State.instrByte_one (s : State) : s.instrByte 1 = s.memRead (mkAddr s.pb (s.pc + 1)) := rfl

/-- The second operand byte is two offsets on (R100). -/
theorem State.instrByte_two (s : State) : s.instrByte 2 = s.memRead (mkAddr s.pb (s.pc + 2)) := rfl

/-- Advancing PC changes no byte of memory. -/
@[simp] theorem State.memRead_advancePc (s : State) (n : Nat) (addr : Addr) : (s.advancePc n).memRead addr = s.memRead addr :=
  rfl

theorem State.fetchInstr_dflt {s : State} {op : Byte} {i : Instr} (h : s.memRead (mkAddr s.pb s.pc) = op)
    (he : entryOf op = .dflt i) : s.fetchInstr = i := by
  simp only [State.fetchInstr, decodeFrom, State.instrByte_zero, h, he]

theorem State.fetchInstr_imp {s : State} {op : Byte} {i : Instr} (h : s.memRead (mkAddr s.pb s.pc) = op)
    (he : entryOf op = .imp i) : s.fetchInstr = i := by
  simp only [State.fetchInstr, decodeFrom, State.instrByte_zero, h, he]

theorem State.fetchInstr_imm8 {s : State} {op : Byte} {mk : Byte → Instr} (h : s.memRead (mkAddr s.pb s.pc) = op)
    (he : entryOf op = .imm8 mk) : s.fetchInstr = mk (s.memRead (mkAddr s.pb (s.pc + 1))) := by
  simp only [State.fetchInstr, decodeFrom, State.instrByte_zero, h, he, State.instrByte_one]

theorem State.fetchInstr_abs16 {s : State} {op : Byte} {mk : Word → Instr} (h : s.memRead (mkAddr s.pb s.pc) = op)
    (he : entryOf op = .abs16 mk) :
    s.fetchInstr = mk (joinBytes (s.memRead (mkAddr s.pb (s.pc + 1))) (s.memRead (mkAddr s.pb (s.pc + 2)))) := by
  simp only [State.fetchInstr, decodeFrom, State.instrByte_zero, h, he, State.instrByte_one, State.instrByte_two]

/-- With a ROM loaded, a step runs the instruction at PC (R123). -/
theorem step_of_romLoaded {s : State} (h : s.romLoaded = true) : step s = exec s.fetchInstr s := by
  rw [step, if_pos h]

/-- With no ROM loaded, a step has no effect (R124). -/
theorem step_of_not_romLoaded {s : State} (h : s.romLoaded = false) : step s = .next s := by
  rw [step, h]
  rfl

/-- The value a load writes, as a number: the operand byte's (R102). -/
theorem immValue_eq_ofNat (v : Byte) : immValue v = BitVec.ofNat 16 v.toNat := by
  apply BitVec.eq_of_toNat_eq
  simp [immValue]

end Sys2Proof.Machine
end

