-- ==== Sys2Proof/Laws/Flags.lean ====
section
/-! SUPPORT. The bits of P after a flag write: the flag's own bit, and every other bit as before (R34). -/

namespace Sys2Proof.Machine

/-- Each bit of P after one flag is written. -/
theorem setFlag_getLsbD (p : Byte) (f : Flag) (value : Bool) (k : Nat) :
    (setFlag p f value).getLsbD k = if k = flagBit f then value else p.getLsbD k := by
  have hf : flagBit f < 8 := by cases f <;> decide
  by_cases hk : k < 8
  · have hmask : (flagMask f).getLsbD k = decide (k = flagBit f) := by
      have hk' : k = 0 ∨ k = 1 ∨ k = 2 ∨ k = 3 ∨ k = 4 ∨ k = 5 ∨ k = 6 ∨ k = 7 := by omega
      cases f <;> rcases hk' with rfl | rfl | rfl | rfl | rfl | rfl | rfl | rfl <;> decide
    cases value
    · rw [setFlag, if_neg (by decide), BitVec.getLsbD_and, BitVec.getLsbD_not, hmask]
      by_cases h : k = flagBit f <;> simp [h, hk]
    · rw [setFlag, if_pos rfl, BitVec.getLsbD_or, hmask]
      by_cases h : k = flagBit f <;> simp [h]
  · have h8 : ∀ q : Byte, q.getLsbD k = false := fun q => BitVec.getLsbD_of_ge q k (by omega)
    rw [h8, h8, if_neg (by omega)]

/-- Each bit of P after set_nz: N is bit 7 of the operand, Z says it is zero, the others stay (R38). -/
theorem setNz_getLsbD (p v : Byte) (k : Nat) :
    (setNz p v).getLsbD k = if k = 1 then v == 0 else if k = 7 then v.getLsbD 7 else p.getLsbD k := by
  rw [setNz, setFlag_getLsbD, setFlag_getLsbD]
  rfl

/-- A written flag reads the value written. -/
@[simp] theorem getFlag_setFlag_same (p : Byte) (f : Flag) (value : Bool) : getFlag (setFlag p f value) f = value := by
  simp [getFlag, setFlag_getLsbD]

/-- A flag that is not written reads as before. -/
theorem getFlag_setFlag_ne (p : Byte) {f g : Flag} (value : Bool) (h : flagBit g ≠ flagBit f) :
    getFlag (setFlag p f value) g = getFlag p g := by
  simp [getFlag, setFlag_getLsbD, h]

end Sys2Proof.Machine
end

