-- ==== Sys2Proof/Laws/Ppu.lean ====
section
/-! SUPPORT. Rendering: what each framebuffer byte holds after a pixel, a row of pixels and a PpuStep. -/

namespace Sys2Proof.Machine

/-- A component of a pixel, 0 red, 1 green, 2 blue (R216). -/
def component (v : Rgb) : Nat → Byte
  | 0 => v.red
  | 1 => v.green
  | _ => v.blue

theorem Memory.writePixel_wf {fb : Memory} (h : fb.wf = true) (x y : Nat) (v : Rgb) : (fb.writePixel x y v).wf = true :=
  Memory.write_wf (Memory.write_wf (Memory.write_wf h _ _) _ _) _ _

/-- Every byte after one pixel is written: its three components, and the others as before (R213). -/
theorem Memory.read_writePixel {fb : Memory} (h : fb.wf = true) (x y : Nat) (v : Rgb) (k : Nat) :
    (fb.writePixel x y v).read k = if k / 3 = y * 256 + x then component v (k % 3) else fb.read k := by
  have h1 := Memory.write_wf h (pixelIndex x y 0) v.red
  have h2 := Memory.write_wf h1 (pixelIndex x y 1) v.green
  unfold Memory.writePixel
  rw [Memory.read_write h2, Memory.read_write h1, Memory.read_write h]
  unfold pixelIndex
  have hk : k % 3 = 0 ∨ k % 3 = 1 ∨ k % 3 = 2 := by omega
  by_cases hp : k / 3 = y * 256 + x
  · rcases hk with hk | hk | hk
    · rw [if_neg (by omega), if_neg (by omega), if_pos (by omega), if_pos hp, hk]; rfl
    · rw [if_neg (by omega), if_pos (by omega), if_pos hp, hk]; rfl
    · rw [if_pos (by omega), if_pos hp, hk]; rfl
  · rw [if_neg (by omega), if_neg (by omega), if_neg (by omega), if_neg hp]

theorem Memory.writePixel_within {fb : Memory} (h : Memory.within Config.frameBytes fb = true) {x y : Nat} (hx : x < 256)
    (hy : y < 224) (v : Rgb) : Memory.within Config.frameBytes (fb.writePixel x y v) = true := by
  unfold Memory.writePixel pixelIndex
  unfold Config.frameBytes at h ⊢
  exact Memory.write_within (by omega) (Memory.write_within (by omega) (Memory.write_within (by omega) h _) _) _

theorem renderColumns_wf (f : PixelFn) (y : Fin 224) (xs : List (Fin 256)) {fb : Memory} (h : fb.wf = true) :
    (renderColumns f y xs fb).wf = true := by
  induction xs generalizing fb with
  | nil => exact h
  | cons x xs ih => exact ih (Memory.writePixel_wf h _ _ _)

theorem renderColumns_within (f : PixelFn) (y : Fin 224) (xs : List (Fin 256)) {fb : Memory}
    (h : Memory.within Config.frameBytes fb = true) : Memory.within Config.frameBytes (renderColumns f y xs fb) = true := by
  induction xs generalizing fb with
  | nil => exact h
  | cons x xs ih => exact ih (Memory.writePixel_within h x.isLt y.isLt _)

/-- Bytes outside the rendered columns stay (R213). -/
theorem read_renderColumns_of_not_mem (f : PixelFn) (y : Fin 224) (xs : List (Fin 256)) {fb : Memory} (h : fb.wf = true)
    {k : Nat} (hk : ∀ x ∈ xs, k / 3 ≠ y * 256 + x) : (renderColumns f y xs fb).read k = fb.read k := by
  induction xs generalizing fb with
  | nil => rfl
  | cons x xs ih =>
    rw [renderColumns, ih (Memory.writePixel_wf h _ _ _) (fun x' hx' => hk x' (List.mem_cons_of_mem _ hx')),
      Memory.read_writePixel h, if_neg (hk x List.mem_cons_self)]

/-- A rendered column holds its pixel (R213). -/
theorem read_renderColumns_of_mem (f : PixelFn) (y : Fin 224) (xs : List (Fin 256)) {fb : Memory} (h : fb.wf = true)
    {x : Fin 256} (hx : x ∈ xs) {k : Nat} (hk : k / 3 = y * 256 + x) :
    (renderColumns f y xs fb).read k = component (f x y) (k % 3) := by
  induction xs generalizing fb with
  | nil => simp at hx
  | cons x' xs ih =>
    by_cases hmem : x ∈ xs
    · exact ih (Memory.writePixel_wf h _ _ _) hmem
    · have hxx : x = x' := by simpa [hmem] using hx
      subst hxx
      rw [renderColumns, read_renderColumns_of_not_mem f y xs (Memory.writePixel_wf h _ _ _), Memory.read_writePixel h,
        if_pos hk]
      intro x' hx' he
      have : x = x' := Fin.ext (by omega)
      exact hmem (this ▸ hx')

/-- Every byte after a line is rendered: the row's 768 bytes hold its pixels, the others stay (R213). -/
theorem State.read_renderLine (s : State) (h : s.fb.wf = true) (f : PixelFn) (y : Fin 224) (k : Nat) :
    (s.renderLine f y).fb.read k =
      if hk : k / 768 = y then component (f ⟨k / 3 % 256, Nat.mod_lt _ (by decide)⟩ y) (k % 3) else s.fb.read k := by
  unfold State.renderLine
  dsimp only
  split
  · rename_i hk
    exact read_renderColumns_of_mem f y _ h (List.mem_finRange _) (by
      show k / 3 = y * 256 + k / 3 % 256
      omega)
  · rename_i hk
    refine read_renderColumns_of_not_mem f y _ h fun x _ => ?_
    have := x.isLt
    omega

/-- What a rendered line leaves of the state: the framebuffer at most, canonical and within its size if it was (R213). -/
theorem State.renderLine_wf {s : State} (h : s.fb.wf = true) (f : PixelFn) (y : Fin 224) : (s.renderLine f y).fb.wf = true := by
  unfold State.renderLine
  dsimp only
  exact renderColumns_wf f y (List.finRange 256) h

theorem State.renderLine_within {s : State} (h : Memory.within Config.frameBytes s.fb = true) (f : PixelFn) (y : Fin 224) :
    Memory.within Config.frameBytes (s.renderLine f y).fb = true := by
  unfold State.renderLine
  dsimp only
  exact renderColumns_within f y (List.finRange 256) h

/-- The answer of a PpuStep: the frame edge (R215). -/
theorem State.ppuStep_edge (f : PixelFn) (s : State) : (s.ppuStep f).2 = decide (s.scanline = 261) := by
  simp only [State.ppuStep]

/-- A PpuStep changes the framebuffer and the scanline at most (R211). -/
theorem State.ppuStep_eq (f : PixelFn) (s : State) :
    (s.ppuStep f).1 = { s with fb := (s.ppuStep f).1.fb, scanline := nextScanline s.scanline } := by
  by_cases h : s.scanline < 224
  · simp only [State.ppuStep, dif_pos h, State.renderLine]
  · simp only [State.ppuStep, dif_neg h]

/-- The framebuffer after a PpuStep: the line rendered if it is visible (R211, R212). -/
theorem State.ppuStep_fb (f : PixelFn) (s : State) :
    (s.ppuStep f).1.fb = if h : s.scanline < 224 then (s.renderLine f ⟨s.scanline, h⟩).fb else s.fb := by
  unfold State.ppuStep
  dsimp only
  split <;> rfl

/-- A PpuStep keeps the framebuffer canonical. -/
theorem State.ppuStep_wf {s : State} (h : s.fb.wf = true) (f : PixelFn) : (s.ppuStep f).1.fb.wf = true := by
  rw [State.ppuStep_fb]
  split
  · exact State.renderLine_wf h f _
  · exact h

/-- A PpuStep keeps the framebuffer within its size. -/
theorem State.ppuStep_within {s : State} (h : Memory.within Config.frameBytes s.fb = true) (f : PixelFn) :
    Memory.within Config.frameBytes (s.ppuStep f).1.fb = true := by
  rw [State.ppuStep_fb]
  split
  · exact State.renderLine_within h f _
  · exact h

end Sys2Proof.Machine
end

