-- ==== Sys2Proof/Laws/Rom.lean ====
section
/-! SUPPORT. ROM loading: the banks an image becomes (R70), and that their bytes are canonical. -/

namespace Sys2Proof.Machine

@[simp] theorem romBanks_length (n : Nat) (data : List Byte) : (romBanks n data).length = n := by
  induction n generalizing data with
  | zero => rfl
  | succ n ih => simp [romBanks, ih]

/-- Bank k of an image: its 0x8000 bytes from k * 0x8000 on, or as many as the image still has (R70). -/
theorem romBanks_getElem? {n k : Nat} (hk : k < n) (data : List Byte) :
    (romBanks n data)[k]? = some (.ofBytes ((data.drop (k * Config.romBankSize)).take Config.romBankSize)) := by
  induction n generalizing data k with
  | zero => omega
  | succ n ih =>
    cases k with
    | zero => simp [romBanks]
    | succ k =>
      rw [romBanks, List.getElem?_cons_succ, ih (by omega), List.drop_drop]
      congr 4
      rw [Nat.succ_mul, Nat.add_comm]

/-- A bank made of bytes has their length and reads them back, 0x00 past the end. -/
theorem RomBank.ofBytes_spec (bytes : List Byte) :
    (RomBank.ofBytes bytes).len = bytes.length ∧ ∀ i, (RomBank.ofBytes bytes).cells.read i = bytes.getD i 0 := by
  refine ⟨rfl, fun i => ?_⟩
  have := Memory.read_ofBytes 0 i bytes
  rwa [Nat.zero_add] at this

/-- A bank made of bytes is canonical and within its length. -/
theorem RomBank.ofBytes_legal (bytes : List Byte) :
    (RomBank.ofBytes bytes).cells.wf = true ∧ Memory.within (RomBank.ofBytes bytes).len (RomBank.ofBytes bytes).cells = true := by
  refine ⟨Memory.ofBytes_wfFrom 0 bytes, ?_⟩
  have := Memory.ofBytes_within 0 bytes
  rwa [Nat.zero_add] at this

/-- LoadRom of data that is not empty: the ROM is the image's banks, everything else stays (R70, R71). -/
theorem State.loadRom_eq (s : State) {data : List Byte} (h : data ≠ []) :
    s.loadRom data = { s with rom := romBanks (bankCount (stripHeader data).length) (stripHeader data) } := by
  unfold State.loadRom
  rw [if_neg (by simpa using h)]

/-- LoadRom replaces nothing but the ROM (R71). -/
theorem State.loadRom_frame (s : State) (data : List Byte) : s.loadRom data = { s with rom := (s.loadRom data).rom } := by
  by_cases h : data = []
  · subst h
    rfl
  · rw [State.loadRom_eq s h]

/-- No bank of an image is longer than 0x8000 (R44, R70). -/
theorem romBanks_len_le {n b : Nat} {data : List Byte} {bank : RomBank} (h : (romBanks n data)[b]? = some bank) :
    bank.len ≤ Config.romBankSize := by
  have hb : b < n := by
    have := (List.getElem?_eq_some_iff.mp h).1
    rwa [romBanks_length] at this
  rw [romBanks_getElem? hb, Option.some.injEq] at h
  rw [← h, (RomBank.ofBytes_spec _).1]
  exact List.length_take_le _ _

/-- LoadRom of no data does nothing (R70, R201). -/
@[simp] theorem State.loadRom_nil (s : State) : s.loadRom [] = s := rfl

end Sys2Proof.Machine
end

