-- ==== Sys2Proof/Laws/HostOps.lean ====
section
/-! SUPPORT. The host operations: which state each leaves, and the induction over a run of them. -/

namespace Sys2Proof.Machine

/-- The state a host operation leaves: a CpuStep's, that of the one operation it names, or the same (R250). -/
theorem perform_cases {op : HostOp} {s t : State} {out : HostOutput} (h : perform op s = .next (t, out)) :
    (op = .cpuStep ∧ step s = .next t) ∨
      (op ≠ .cpuStep ∧
        ((∃ addr v, t = s.memWrite addr v) ∨ (∃ data, t = s.loadRom data) ∨ t = s.cpuReset ∨
          t = (s.ppuStep Config.pixelFn).1 ∨ (∃ name v, t = s.setButton name v) ∨ t = s)) := by
  cases op <;> simp only [perform, Host.Outcome.next.injEq, Prod.mk.injEq] at h
  case cpuStep =>
    refine .inl ⟨rfl, ?_⟩
    cases hs : step s with
    | next u =>
      rw [hs] at h
      simp only [withOutput, Host.Outcome.next.injEq, Prod.mk.injEq] at h
      rw [h.1]
    | fault f => exact nomatch f
    | refused r =>
      rw [hs] at h
      exact nomatch h
  all_goals refine .inr ⟨nofun, ?_⟩
  case memWrite => exact .inl ⟨_, _, h.1.symm⟩
  case loadRom => exact .inr (.inl ⟨_, h.1.symm⟩)
  case cpuReset => exact .inr (.inr (.inl h.1.symm))
  case ppuStep => exact .inr (.inr (.inr (.inl h.1.symm)))
  case press => exact .inr (.inr (.inr (.inr (.inl ⟨_, _, h.1.symm⟩))))
  case release => exact .inr (.inr (.inr (.inr (.inl ⟨_, _, h.1.symm⟩))))
  all_goals exact .inr (.inr (.inr (.inr (.inr h.1.symm))))

/-- What every host operation keeps, a run of them keeps (R253). -/
theorem performAll_keeps {P : State → Prop}
    (keep : ∀ op s t out, P s → perform op s = .next (t, out) → P t) {ops : List HostOp} {s t : State}
    {outs : List HostOutput} (hs : P s) (h : performAll ops s = .next (t, outs)) : P t := by
  induction ops generalizing s outs with
  | nil =>
    simp only [performAll, Host.Outcome.next.injEq, Prod.mk.injEq] at h
    exact h.1 ▸ hs
  | cons op ops ih =>
    rw [performAll] at h
    cases hp : perform op s with
    | next one =>
      rw [hp] at h
      cases hr : performAll ops one.1 with
      | next rest =>
        simp only [hr, Host.Outcome.next.injEq, Prod.mk.injEq] at h
        obtain ⟨rfl, -⟩ := h
        exact ih (keep op s one.1 one.2 hs hp) hr
      | fault f => exact nomatch f
      | refused r =>
        simp only [hr] at h
        exact nomatch h
    | fault f => exact nomatch f
    | refused r =>
      rw [hp] at h
      exact nomatch h

end Sys2Proof.Machine
end

