-- ==== Sys2Proof/Laws/Legal.lean ====
section
/-! SUPPORT. The operations on memory keep its legal form: ROM loading, MemWrite, rendering. -/

namespace Sys2Proof.Machine

/-- A legal ROM with one full bank more in front is legal (R44). -/
theorem romLegal_cons {bank : RomBank} {banks : List RomBank} (hlen : bank.len = Config.romBankSize)
    (hwf : bank.cells.wf = true) (hin : Memory.within bank.len bank.cells = true) (h : romLegal banks = true) :
    romLegal (bank :: banks) = true := by
  cases banks with
  | nil =>
    simp only [romLegal, hwf, hin, Bool.and_true, Bool.and_eq_true, decide_eq_true_eq]
    rw [hlen]
    exact ⟨by decide, Nat.le_refl _⟩
  | cons b bs =>
    simp only [romLegal, hwf, hin, Bool.and_true, Bool.and_eq_true, decide_eq_true_eq]
    exact ⟨hlen, h⟩

/-- The banks of an image are a legal ROM (R44, R70). -/
theorem romBanks_legal (data : List Byte) : romLegal (romBanks (bankCount data.length) data) = true := by
  generalize hn : bankCount data.length = n
  induction n generalizing data with
  | zero => rfl
  | succ n ih =>
    have hcount : ∀ m, bankCount m = (m + 0x7FFF) / 0x8000 := fun _ => rfl
    have hl := RomBank.ofBytes_legal (data.take Config.romBankSize)
    have hlen : (RomBank.ofBytes (data.take Config.romBankSize)).len = min 0x8000 data.length := by
      rw [(RomBank.ofBytes_spec _).1, List.length_take]
      rfl
    have hrest := ih (data.drop Config.romBankSize) (by
      rw [hcount, List.length_drop, show Config.romBankSize = 0x8000 from rfl]
      rw [hcount] at hn
      omega)
    rw [hcount] at hn
    rw [romBanks]
    by_cases hfull : 0x8000 ≤ data.length
    · exact romLegal_cons (by rw [hlen, Nat.min_eq_left hfull]; rfl) hl.1 hl.2 hrest
    · have h0 : n = 0 := by omega
      subst h0
      have h1 : 1 ≤ data.length := by omega
      rw [romBanks, romLegal, hl.1, hl.2, hlen, Nat.min_eq_right (Nat.le_of_not_le hfull), Bool.and_true, Bool.and_true,
        Bool.and_eq_true, decide_eq_true_eq, decide_eq_true_eq]
      exact ⟨h1, Nat.le_of_not_le hfull⟩

/-- MemWrite keeps WRAM canonical and within its size (R41, R68). -/
theorem State.memWrite_legal {s : State} (h : Memory.Legal Config.wramSize s.wram) (addr : Addr) (v : Byte) :
    Memory.Legal Config.wramSize (s.memWrite addr v).wram := by
  rcases s.decodeAddr_cases addr with ⟨j, hj, hd⟩ | ⟨b, i, -, -, hd⟩ | hd
  · rw [State.memWrite_wram hd]
    exact ⟨Memory.write_wf h.1 _ _, Memory.write_within hj h.2 _⟩
  · rwa [State.memWrite_other (by simp only [State.isWram, hd])]
  · rwa [State.memWrite_other (by simp only [State.isWram, hd])]

/-- LoadRom keeps the ROM legal (R44, R70). -/
theorem State.loadRom_legal {s : State} (h : romLegal s.rom = true) (data : List Byte) :
    romLegal (s.loadRom data).rom = true := by
  by_cases hd : data = []
  · subst hd
    exact h
  · rw [State.loadRom_eq s hd]
    exact romBanks_legal _

/-- A PpuStep keeps the framebuffer canonical and within its size (R48). -/
theorem State.ppuStep_legal {s : State} (h : Memory.Legal Config.frameBytes s.fb) (f : PixelFn) :
    Memory.Legal Config.frameBytes (s.ppuStep f).1.fb :=
  ⟨State.ppuStep_wf h.1 f, State.ppuStep_within h.2 f⟩

/-- The reset state's memory has the canonical form (log 13). -/
theorem reset_wram_wf : State.reset.wram.wf = true := rfl

end Sys2Proof.Machine
end

