-- ==== Sys2Proof/Laws/PerInstr.lean ====
section
/-! SUPPORT. The per-instruction family DecodeEncode: each instruction's bytes decode to it, whatever follows them
(R100, R105). -/

namespace Sys2Proof.Laws

/-- The bytes of i, with anything after them, decode to i and leave what follows (R100). -/
def DecodeEncode.Statement (i : Instr) : Prop :=
  ∀ rest : List Byte, decode (encode i ++ rest) = .ok (i, rest)

theorem DecodeEncode.nop : DecodeEncode.Statement .nop := fun _ => rfl
theorem DecodeEncode.clc : DecodeEncode.Statement .clc := fun _ => rfl
theorem DecodeEncode.sec : DecodeEncode.Statement .sec := fun _ => rfl

/-- An instruction of format IMM8 decodes back (R102): the operand byte is taken as it is. -/
theorem decode_imm8 {op v : Byte} {mk : Byte → Instr} (h : entryOf op = .imm8 mk) (rest : List Byte) :
    decode (op :: v :: rest) = .ok (mk v, rest) := by
  simp [decode, instrLength, decodeFrom, h, OpcodeEntry.length]

/-- An instruction of format ABS16 decodes to the word of its two operand bytes, low first (R103). -/
theorem decode_abs16 {op lo hi : Byte} {mk : Word → Instr} (h : entryOf op = .abs16 mk) (rest : List Byte) :
    decode (op :: lo :: hi :: rest) = .ok (mk (joinBytes lo hi), rest) := by
  simp [decode, instrLength, decodeFrom, h, OpcodeEntry.length]

/-- A word is its two bytes joined again (R72). -/
theorem joinBytes_extract (a : Word) : joinBytes (a.extractLsb' 0 8) (a.extractLsb' 8 8) = a := by
  simp only [joinBytes]
  ext i hi
  simp only [BitVec.getElem_append, BitVec.getElem_extractLsb']
  split
  · simp [BitVec.getLsbD_eq_getElem hi]
  · rw [← BitVec.getLsbD_eq_getElem hi]
    congr 1
    omega

theorem DecodeEncode.ldaImm (v : Byte) : DecodeEncode.Statement (.ldaImm v) := decode_imm8 rfl
theorem DecodeEncode.ldxImm (v : Byte) : DecodeEncode.Statement (.ldxImm v) := decode_imm8 rfl
theorem DecodeEncode.ldyImm (v : Byte) : DecodeEncode.Statement (.ldyImm v) := decode_imm8 rfl

theorem DecodeEncode.jmpAbs (a : Word) : DecodeEncode.Statement (.jmpAbs a) := fun rest => by
  have h := decode_abs16 (op := 0x4C) (lo := a.extractLsb' 0 8) (hi := a.extractLsb' 8 8) (mk := .jmpAbs) rfl rest
  rwa [joinBytes_extract] at h

theorem DecodeEncode.default00 : DecodeEncode.Statement .default00 := fun _ => rfl
theorem DecodeEncode.default01 : DecodeEncode.Statement .default01 := fun _ => rfl
theorem DecodeEncode.default02 : DecodeEncode.Statement .default02 := fun _ => rfl
theorem DecodeEncode.default03 : DecodeEncode.Statement .default03 := fun _ => rfl
theorem DecodeEncode.default04 : DecodeEncode.Statement .default04 := fun _ => rfl
theorem DecodeEncode.default05 : DecodeEncode.Statement .default05 := fun _ => rfl
theorem DecodeEncode.default06 : DecodeEncode.Statement .default06 := fun _ => rfl
theorem DecodeEncode.default07 : DecodeEncode.Statement .default07 := fun _ => rfl
theorem DecodeEncode.default08 : DecodeEncode.Statement .default08 := fun _ => rfl
theorem DecodeEncode.default09 : DecodeEncode.Statement .default09 := fun _ => rfl
theorem DecodeEncode.default0A : DecodeEncode.Statement .default0A := fun _ => rfl
theorem DecodeEncode.default0B : DecodeEncode.Statement .default0B := fun _ => rfl
theorem DecodeEncode.default0C : DecodeEncode.Statement .default0C := fun _ => rfl
theorem DecodeEncode.default0D : DecodeEncode.Statement .default0D := fun _ => rfl
theorem DecodeEncode.default0E : DecodeEncode.Statement .default0E := fun _ => rfl
theorem DecodeEncode.default0F : DecodeEncode.Statement .default0F := fun _ => rfl
theorem DecodeEncode.default10 : DecodeEncode.Statement .default10 := fun _ => rfl
theorem DecodeEncode.default11 : DecodeEncode.Statement .default11 := fun _ => rfl
theorem DecodeEncode.default12 : DecodeEncode.Statement .default12 := fun _ => rfl
theorem DecodeEncode.default13 : DecodeEncode.Statement .default13 := fun _ => rfl
theorem DecodeEncode.default14 : DecodeEncode.Statement .default14 := fun _ => rfl
theorem DecodeEncode.default15 : DecodeEncode.Statement .default15 := fun _ => rfl
theorem DecodeEncode.default16 : DecodeEncode.Statement .default16 := fun _ => rfl
theorem DecodeEncode.default17 : DecodeEncode.Statement .default17 := fun _ => rfl
theorem DecodeEncode.default19 : DecodeEncode.Statement .default19 := fun _ => rfl
theorem DecodeEncode.default1A : DecodeEncode.Statement .default1A := fun _ => rfl
theorem DecodeEncode.default1B : DecodeEncode.Statement .default1B := fun _ => rfl
theorem DecodeEncode.default1C : DecodeEncode.Statement .default1C := fun _ => rfl
theorem DecodeEncode.default1D : DecodeEncode.Statement .default1D := fun _ => rfl
theorem DecodeEncode.default1E : DecodeEncode.Statement .default1E := fun _ => rfl
theorem DecodeEncode.default1F : DecodeEncode.Statement .default1F := fun _ => rfl
theorem DecodeEncode.default20 : DecodeEncode.Statement .default20 := fun _ => rfl
theorem DecodeEncode.default21 : DecodeEncode.Statement .default21 := fun _ => rfl
theorem DecodeEncode.default22 : DecodeEncode.Statement .default22 := fun _ => rfl
theorem DecodeEncode.default23 : DecodeEncode.Statement .default23 := fun _ => rfl
theorem DecodeEncode.default24 : DecodeEncode.Statement .default24 := fun _ => rfl
theorem DecodeEncode.default25 : DecodeEncode.Statement .default25 := fun _ => rfl
theorem DecodeEncode.default26 : DecodeEncode.Statement .default26 := fun _ => rfl
theorem DecodeEncode.default27 : DecodeEncode.Statement .default27 := fun _ => rfl
theorem DecodeEncode.default28 : DecodeEncode.Statement .default28 := fun _ => rfl
theorem DecodeEncode.default29 : DecodeEncode.Statement .default29 := fun _ => rfl
theorem DecodeEncode.default2A : DecodeEncode.Statement .default2A := fun _ => rfl
theorem DecodeEncode.default2B : DecodeEncode.Statement .default2B := fun _ => rfl
theorem DecodeEncode.default2C : DecodeEncode.Statement .default2C := fun _ => rfl
theorem DecodeEncode.default2D : DecodeEncode.Statement .default2D := fun _ => rfl
theorem DecodeEncode.default2E : DecodeEncode.Statement .default2E := fun _ => rfl
theorem DecodeEncode.default2F : DecodeEncode.Statement .default2F := fun _ => rfl
theorem DecodeEncode.default30 : DecodeEncode.Statement .default30 := fun _ => rfl
theorem DecodeEncode.default31 : DecodeEncode.Statement .default31 := fun _ => rfl
theorem DecodeEncode.default32 : DecodeEncode.Statement .default32 := fun _ => rfl
theorem DecodeEncode.default33 : DecodeEncode.Statement .default33 := fun _ => rfl
theorem DecodeEncode.default34 : DecodeEncode.Statement .default34 := fun _ => rfl
theorem DecodeEncode.default35 : DecodeEncode.Statement .default35 := fun _ => rfl
theorem DecodeEncode.default36 : DecodeEncode.Statement .default36 := fun _ => rfl
theorem DecodeEncode.default37 : DecodeEncode.Statement .default37 := fun _ => rfl
theorem DecodeEncode.default39 : DecodeEncode.Statement .default39 := fun _ => rfl
theorem DecodeEncode.default3A : DecodeEncode.Statement .default3A := fun _ => rfl
theorem DecodeEncode.default3B : DecodeEncode.Statement .default3B := fun _ => rfl
theorem DecodeEncode.default3C : DecodeEncode.Statement .default3C := fun _ => rfl
theorem DecodeEncode.default3D : DecodeEncode.Statement .default3D := fun _ => rfl
theorem DecodeEncode.default3E : DecodeEncode.Statement .default3E := fun _ => rfl
theorem DecodeEncode.default3F : DecodeEncode.Statement .default3F := fun _ => rfl
theorem DecodeEncode.default40 : DecodeEncode.Statement .default40 := fun _ => rfl
theorem DecodeEncode.default41 : DecodeEncode.Statement .default41 := fun _ => rfl
theorem DecodeEncode.default42 : DecodeEncode.Statement .default42 := fun _ => rfl
theorem DecodeEncode.default43 : DecodeEncode.Statement .default43 := fun _ => rfl
theorem DecodeEncode.default44 : DecodeEncode.Statement .default44 := fun _ => rfl
theorem DecodeEncode.default45 : DecodeEncode.Statement .default45 := fun _ => rfl
theorem DecodeEncode.default46 : DecodeEncode.Statement .default46 := fun _ => rfl
theorem DecodeEncode.default47 : DecodeEncode.Statement .default47 := fun _ => rfl
theorem DecodeEncode.default48 : DecodeEncode.Statement .default48 := fun _ => rfl
theorem DecodeEncode.default49 : DecodeEncode.Statement .default49 := fun _ => rfl
theorem DecodeEncode.default4A : DecodeEncode.Statement .default4A := fun _ => rfl
theorem DecodeEncode.default4B : DecodeEncode.Statement .default4B := fun _ => rfl
theorem DecodeEncode.default4D : DecodeEncode.Statement .default4D := fun _ => rfl
theorem DecodeEncode.default4E : DecodeEncode.Statement .default4E := fun _ => rfl
theorem DecodeEncode.default4F : DecodeEncode.Statement .default4F := fun _ => rfl
theorem DecodeEncode.default50 : DecodeEncode.Statement .default50 := fun _ => rfl
theorem DecodeEncode.default51 : DecodeEncode.Statement .default51 := fun _ => rfl
theorem DecodeEncode.default52 : DecodeEncode.Statement .default52 := fun _ => rfl
theorem DecodeEncode.default53 : DecodeEncode.Statement .default53 := fun _ => rfl
theorem DecodeEncode.default54 : DecodeEncode.Statement .default54 := fun _ => rfl
theorem DecodeEncode.default55 : DecodeEncode.Statement .default55 := fun _ => rfl
theorem DecodeEncode.default56 : DecodeEncode.Statement .default56 := fun _ => rfl
theorem DecodeEncode.default57 : DecodeEncode.Statement .default57 := fun _ => rfl
theorem DecodeEncode.default58 : DecodeEncode.Statement .default58 := fun _ => rfl
theorem DecodeEncode.default59 : DecodeEncode.Statement .default59 := fun _ => rfl
theorem DecodeEncode.default5A : DecodeEncode.Statement .default5A := fun _ => rfl
theorem DecodeEncode.default5B : DecodeEncode.Statement .default5B := fun _ => rfl
theorem DecodeEncode.default5C : DecodeEncode.Statement .default5C := fun _ => rfl
theorem DecodeEncode.default5D : DecodeEncode.Statement .default5D := fun _ => rfl
theorem DecodeEncode.default5E : DecodeEncode.Statement .default5E := fun _ => rfl
theorem DecodeEncode.default5F : DecodeEncode.Statement .default5F := fun _ => rfl
theorem DecodeEncode.default60 : DecodeEncode.Statement .default60 := fun _ => rfl
theorem DecodeEncode.default61 : DecodeEncode.Statement .default61 := fun _ => rfl
theorem DecodeEncode.default62 : DecodeEncode.Statement .default62 := fun _ => rfl
theorem DecodeEncode.default63 : DecodeEncode.Statement .default63 := fun _ => rfl
theorem DecodeEncode.default64 : DecodeEncode.Statement .default64 := fun _ => rfl
theorem DecodeEncode.default65 : DecodeEncode.Statement .default65 := fun _ => rfl
theorem DecodeEncode.default66 : DecodeEncode.Statement .default66 := fun _ => rfl
theorem DecodeEncode.default67 : DecodeEncode.Statement .default67 := fun _ => rfl
theorem DecodeEncode.default68 : DecodeEncode.Statement .default68 := fun _ => rfl
theorem DecodeEncode.default69 : DecodeEncode.Statement .default69 := fun _ => rfl
theorem DecodeEncode.default6A : DecodeEncode.Statement .default6A := fun _ => rfl
theorem DecodeEncode.default6B : DecodeEncode.Statement .default6B := fun _ => rfl
theorem DecodeEncode.default6C : DecodeEncode.Statement .default6C := fun _ => rfl
theorem DecodeEncode.default6D : DecodeEncode.Statement .default6D := fun _ => rfl
theorem DecodeEncode.default6E : DecodeEncode.Statement .default6E := fun _ => rfl
theorem DecodeEncode.default6F : DecodeEncode.Statement .default6F := fun _ => rfl
theorem DecodeEncode.default70 : DecodeEncode.Statement .default70 := fun _ => rfl
theorem DecodeEncode.default71 : DecodeEncode.Statement .default71 := fun _ => rfl
theorem DecodeEncode.default72 : DecodeEncode.Statement .default72 := fun _ => rfl
theorem DecodeEncode.default73 : DecodeEncode.Statement .default73 := fun _ => rfl
theorem DecodeEncode.default74 : DecodeEncode.Statement .default74 := fun _ => rfl
theorem DecodeEncode.default75 : DecodeEncode.Statement .default75 := fun _ => rfl
theorem DecodeEncode.default76 : DecodeEncode.Statement .default76 := fun _ => rfl
theorem DecodeEncode.default77 : DecodeEncode.Statement .default77 := fun _ => rfl
theorem DecodeEncode.default78 : DecodeEncode.Statement .default78 := fun _ => rfl
theorem DecodeEncode.default79 : DecodeEncode.Statement .default79 := fun _ => rfl
theorem DecodeEncode.default7A : DecodeEncode.Statement .default7A := fun _ => rfl
theorem DecodeEncode.default7B : DecodeEncode.Statement .default7B := fun _ => rfl
theorem DecodeEncode.default7C : DecodeEncode.Statement .default7C := fun _ => rfl
theorem DecodeEncode.default7D : DecodeEncode.Statement .default7D := fun _ => rfl
theorem DecodeEncode.default7E : DecodeEncode.Statement .default7E := fun _ => rfl
theorem DecodeEncode.default7F : DecodeEncode.Statement .default7F := fun _ => rfl
theorem DecodeEncode.default80 : DecodeEncode.Statement .default80 := fun _ => rfl
theorem DecodeEncode.default81 : DecodeEncode.Statement .default81 := fun _ => rfl
theorem DecodeEncode.default82 : DecodeEncode.Statement .default82 := fun _ => rfl
theorem DecodeEncode.default83 : DecodeEncode.Statement .default83 := fun _ => rfl
theorem DecodeEncode.default84 : DecodeEncode.Statement .default84 := fun _ => rfl
theorem DecodeEncode.default85 : DecodeEncode.Statement .default85 := fun _ => rfl
theorem DecodeEncode.default86 : DecodeEncode.Statement .default86 := fun _ => rfl
theorem DecodeEncode.default87 : DecodeEncode.Statement .default87 := fun _ => rfl
theorem DecodeEncode.default88 : DecodeEncode.Statement .default88 := fun _ => rfl
theorem DecodeEncode.default89 : DecodeEncode.Statement .default89 := fun _ => rfl
theorem DecodeEncode.default8A : DecodeEncode.Statement .default8A := fun _ => rfl
theorem DecodeEncode.default8B : DecodeEncode.Statement .default8B := fun _ => rfl
theorem DecodeEncode.default8C : DecodeEncode.Statement .default8C := fun _ => rfl
theorem DecodeEncode.default8D : DecodeEncode.Statement .default8D := fun _ => rfl
theorem DecodeEncode.default8E : DecodeEncode.Statement .default8E := fun _ => rfl
theorem DecodeEncode.default8F : DecodeEncode.Statement .default8F := fun _ => rfl
theorem DecodeEncode.default90 : DecodeEncode.Statement .default90 := fun _ => rfl
theorem DecodeEncode.default91 : DecodeEncode.Statement .default91 := fun _ => rfl
theorem DecodeEncode.default92 : DecodeEncode.Statement .default92 := fun _ => rfl
theorem DecodeEncode.default93 : DecodeEncode.Statement .default93 := fun _ => rfl
theorem DecodeEncode.default94 : DecodeEncode.Statement .default94 := fun _ => rfl
theorem DecodeEncode.default95 : DecodeEncode.Statement .default95 := fun _ => rfl
theorem DecodeEncode.default96 : DecodeEncode.Statement .default96 := fun _ => rfl
theorem DecodeEncode.default97 : DecodeEncode.Statement .default97 := fun _ => rfl
theorem DecodeEncode.default98 : DecodeEncode.Statement .default98 := fun _ => rfl
theorem DecodeEncode.default99 : DecodeEncode.Statement .default99 := fun _ => rfl
theorem DecodeEncode.default9A : DecodeEncode.Statement .default9A := fun _ => rfl
theorem DecodeEncode.default9B : DecodeEncode.Statement .default9B := fun _ => rfl
theorem DecodeEncode.default9C : DecodeEncode.Statement .default9C := fun _ => rfl
theorem DecodeEncode.default9D : DecodeEncode.Statement .default9D := fun _ => rfl
theorem DecodeEncode.default9E : DecodeEncode.Statement .default9E := fun _ => rfl
theorem DecodeEncode.default9F : DecodeEncode.Statement .default9F := fun _ => rfl
theorem DecodeEncode.defaultA1 : DecodeEncode.Statement .defaultA1 := fun _ => rfl
theorem DecodeEncode.defaultA3 : DecodeEncode.Statement .defaultA3 := fun _ => rfl
theorem DecodeEncode.defaultA4 : DecodeEncode.Statement .defaultA4 := fun _ => rfl
theorem DecodeEncode.defaultA5 : DecodeEncode.Statement .defaultA5 := fun _ => rfl
theorem DecodeEncode.defaultA6 : DecodeEncode.Statement .defaultA6 := fun _ => rfl
theorem DecodeEncode.defaultA7 : DecodeEncode.Statement .defaultA7 := fun _ => rfl
theorem DecodeEncode.defaultA8 : DecodeEncode.Statement .defaultA8 := fun _ => rfl
theorem DecodeEncode.defaultAA : DecodeEncode.Statement .defaultAA := fun _ => rfl
theorem DecodeEncode.defaultAB : DecodeEncode.Statement .defaultAB := fun _ => rfl
theorem DecodeEncode.defaultAC : DecodeEncode.Statement .defaultAC := fun _ => rfl
theorem DecodeEncode.defaultAD : DecodeEncode.Statement .defaultAD := fun _ => rfl
theorem DecodeEncode.defaultAE : DecodeEncode.Statement .defaultAE := fun _ => rfl
theorem DecodeEncode.defaultAF : DecodeEncode.Statement .defaultAF := fun _ => rfl
theorem DecodeEncode.defaultB0 : DecodeEncode.Statement .defaultB0 := fun _ => rfl
theorem DecodeEncode.defaultB1 : DecodeEncode.Statement .defaultB1 := fun _ => rfl
theorem DecodeEncode.defaultB2 : DecodeEncode.Statement .defaultB2 := fun _ => rfl
theorem DecodeEncode.defaultB3 : DecodeEncode.Statement .defaultB3 := fun _ => rfl
theorem DecodeEncode.defaultB4 : DecodeEncode.Statement .defaultB4 := fun _ => rfl
theorem DecodeEncode.defaultB5 : DecodeEncode.Statement .defaultB5 := fun _ => rfl
theorem DecodeEncode.defaultB6 : DecodeEncode.Statement .defaultB6 := fun _ => rfl
theorem DecodeEncode.defaultB7 : DecodeEncode.Statement .defaultB7 := fun _ => rfl
theorem DecodeEncode.defaultB8 : DecodeEncode.Statement .defaultB8 := fun _ => rfl
theorem DecodeEncode.defaultB9 : DecodeEncode.Statement .defaultB9 := fun _ => rfl
theorem DecodeEncode.defaultBA : DecodeEncode.Statement .defaultBA := fun _ => rfl
theorem DecodeEncode.defaultBB : DecodeEncode.Statement .defaultBB := fun _ => rfl
theorem DecodeEncode.defaultBC : DecodeEncode.Statement .defaultBC := fun _ => rfl
theorem DecodeEncode.defaultBD : DecodeEncode.Statement .defaultBD := fun _ => rfl
theorem DecodeEncode.defaultBE : DecodeEncode.Statement .defaultBE := fun _ => rfl
theorem DecodeEncode.defaultBF : DecodeEncode.Statement .defaultBF := fun _ => rfl
theorem DecodeEncode.defaultC0 : DecodeEncode.Statement .defaultC0 := fun _ => rfl
theorem DecodeEncode.defaultC1 : DecodeEncode.Statement .defaultC1 := fun _ => rfl
theorem DecodeEncode.defaultC2 : DecodeEncode.Statement .defaultC2 := fun _ => rfl
theorem DecodeEncode.defaultC3 : DecodeEncode.Statement .defaultC3 := fun _ => rfl
theorem DecodeEncode.defaultC4 : DecodeEncode.Statement .defaultC4 := fun _ => rfl
theorem DecodeEncode.defaultC5 : DecodeEncode.Statement .defaultC5 := fun _ => rfl
theorem DecodeEncode.defaultC6 : DecodeEncode.Statement .defaultC6 := fun _ => rfl
theorem DecodeEncode.defaultC7 : DecodeEncode.Statement .defaultC7 := fun _ => rfl
theorem DecodeEncode.defaultC8 : DecodeEncode.Statement .defaultC8 := fun _ => rfl
theorem DecodeEncode.defaultC9 : DecodeEncode.Statement .defaultC9 := fun _ => rfl
theorem DecodeEncode.defaultCA : DecodeEncode.Statement .defaultCA := fun _ => rfl
theorem DecodeEncode.defaultCB : DecodeEncode.Statement .defaultCB := fun _ => rfl
theorem DecodeEncode.defaultCC : DecodeEncode.Statement .defaultCC := fun _ => rfl
theorem DecodeEncode.defaultCD : DecodeEncode.Statement .defaultCD := fun _ => rfl
theorem DecodeEncode.defaultCE : DecodeEncode.Statement .defaultCE := fun _ => rfl
theorem DecodeEncode.defaultCF : DecodeEncode.Statement .defaultCF := fun _ => rfl
theorem DecodeEncode.defaultD0 : DecodeEncode.Statement .defaultD0 := fun _ => rfl
theorem DecodeEncode.defaultD1 : DecodeEncode.Statement .defaultD1 := fun _ => rfl
theorem DecodeEncode.defaultD2 : DecodeEncode.Statement .defaultD2 := fun _ => rfl
theorem DecodeEncode.defaultD3 : DecodeEncode.Statement .defaultD3 := fun _ => rfl
theorem DecodeEncode.defaultD4 : DecodeEncode.Statement .defaultD4 := fun _ => rfl
theorem DecodeEncode.defaultD5 : DecodeEncode.Statement .defaultD5 := fun _ => rfl
theorem DecodeEncode.defaultD6 : DecodeEncode.Statement .defaultD6 := fun _ => rfl
theorem DecodeEncode.defaultD7 : DecodeEncode.Statement .defaultD7 := fun _ => rfl
theorem DecodeEncode.defaultD8 : DecodeEncode.Statement .defaultD8 := fun _ => rfl
theorem DecodeEncode.defaultD9 : DecodeEncode.Statement .defaultD9 := fun _ => rfl
theorem DecodeEncode.defaultDA : DecodeEncode.Statement .defaultDA := fun _ => rfl
theorem DecodeEncode.defaultDB : DecodeEncode.Statement .defaultDB := fun _ => rfl
theorem DecodeEncode.defaultDC : DecodeEncode.Statement .defaultDC := fun _ => rfl
theorem DecodeEncode.defaultDD : DecodeEncode.Statement .defaultDD := fun _ => rfl
theorem DecodeEncode.defaultDE : DecodeEncode.Statement .defaultDE := fun _ => rfl
theorem DecodeEncode.defaultDF : DecodeEncode.Statement .defaultDF := fun _ => rfl
theorem DecodeEncode.defaultE0 : DecodeEncode.Statement .defaultE0 := fun _ => rfl
theorem DecodeEncode.defaultE1 : DecodeEncode.Statement .defaultE1 := fun _ => rfl
theorem DecodeEncode.defaultE2 : DecodeEncode.Statement .defaultE2 := fun _ => rfl
theorem DecodeEncode.defaultE3 : DecodeEncode.Statement .defaultE3 := fun _ => rfl
theorem DecodeEncode.defaultE4 : DecodeEncode.Statement .defaultE4 := fun _ => rfl
theorem DecodeEncode.defaultE5 : DecodeEncode.Statement .defaultE5 := fun _ => rfl
theorem DecodeEncode.defaultE6 : DecodeEncode.Statement .defaultE6 := fun _ => rfl
theorem DecodeEncode.defaultE7 : DecodeEncode.Statement .defaultE7 := fun _ => rfl
theorem DecodeEncode.defaultE8 : DecodeEncode.Statement .defaultE8 := fun _ => rfl
theorem DecodeEncode.defaultE9 : DecodeEncode.Statement .defaultE9 := fun _ => rfl
theorem DecodeEncode.defaultEB : DecodeEncode.Statement .defaultEB := fun _ => rfl
theorem DecodeEncode.defaultEC : DecodeEncode.Statement .defaultEC := fun _ => rfl
theorem DecodeEncode.defaultED : DecodeEncode.Statement .defaultED := fun _ => rfl
theorem DecodeEncode.defaultEE : DecodeEncode.Statement .defaultEE := fun _ => rfl
theorem DecodeEncode.defaultEF : DecodeEncode.Statement .defaultEF := fun _ => rfl
theorem DecodeEncode.defaultF0 : DecodeEncode.Statement .defaultF0 := fun _ => rfl
theorem DecodeEncode.defaultF1 : DecodeEncode.Statement .defaultF1 := fun _ => rfl
theorem DecodeEncode.defaultF2 : DecodeEncode.Statement .defaultF2 := fun _ => rfl
theorem DecodeEncode.defaultF3 : DecodeEncode.Statement .defaultF3 := fun _ => rfl
theorem DecodeEncode.defaultF4 : DecodeEncode.Statement .defaultF4 := fun _ => rfl
theorem DecodeEncode.defaultF5 : DecodeEncode.Statement .defaultF5 := fun _ => rfl
theorem DecodeEncode.defaultF6 : DecodeEncode.Statement .defaultF6 := fun _ => rfl
theorem DecodeEncode.defaultF7 : DecodeEncode.Statement .defaultF7 := fun _ => rfl
theorem DecodeEncode.defaultF8 : DecodeEncode.Statement .defaultF8 := fun _ => rfl
theorem DecodeEncode.defaultF9 : DecodeEncode.Statement .defaultF9 := fun _ => rfl
theorem DecodeEncode.defaultFA : DecodeEncode.Statement .defaultFA := fun _ => rfl
theorem DecodeEncode.defaultFB : DecodeEncode.Statement .defaultFB := fun _ => rfl
theorem DecodeEncode.defaultFC : DecodeEncode.Statement .defaultFC := fun _ => rfl
theorem DecodeEncode.defaultFD : DecodeEncode.Statement .defaultFD := fun _ => rfl
theorem DecodeEncode.defaultFE : DecodeEncode.Statement .defaultFE := fun _ => rfl
theorem DecodeEncode.defaultFF : DecodeEncode.Statement .defaultFF := fun _ => rfl

/-- The bytes of an instruction decode to it, whatever follows (R100): the family over all constructors. -/
theorem decode_encode (i : Instr) : DecodeEncode.Statement i :=
  match i with
  | .nop => DecodeEncode.nop
  | .clc => DecodeEncode.clc
  | .sec => DecodeEncode.sec
  | .ldaImm v => DecodeEncode.ldaImm v
  | .ldxImm v => DecodeEncode.ldxImm v
  | .ldyImm v => DecodeEncode.ldyImm v
  | .jmpAbs v => DecodeEncode.jmpAbs v
  | .default00 => DecodeEncode.default00
  | .default01 => DecodeEncode.default01
  | .default02 => DecodeEncode.default02
  | .default03 => DecodeEncode.default03
  | .default04 => DecodeEncode.default04
  | .default05 => DecodeEncode.default05
  | .default06 => DecodeEncode.default06
  | .default07 => DecodeEncode.default07
  | .default08 => DecodeEncode.default08
  | .default09 => DecodeEncode.default09
  | .default0A => DecodeEncode.default0A
  | .default0B => DecodeEncode.default0B
  | .default0C => DecodeEncode.default0C
  | .default0D => DecodeEncode.default0D
  | .default0E => DecodeEncode.default0E
  | .default0F => DecodeEncode.default0F
  | .default10 => DecodeEncode.default10
  | .default11 => DecodeEncode.default11
  | .default12 => DecodeEncode.default12
  | .default13 => DecodeEncode.default13
  | .default14 => DecodeEncode.default14
  | .default15 => DecodeEncode.default15
  | .default16 => DecodeEncode.default16
  | .default17 => DecodeEncode.default17
  | .default19 => DecodeEncode.default19
  | .default1A => DecodeEncode.default1A
  | .default1B => DecodeEncode.default1B
  | .default1C => DecodeEncode.default1C
  | .default1D => DecodeEncode.default1D
  | .default1E => DecodeEncode.default1E
  | .default1F => DecodeEncode.default1F
  | .default20 => DecodeEncode.default20
  | .default21 => DecodeEncode.default21
  | .default22 => DecodeEncode.default22
  | .default23 => DecodeEncode.default23
  | .default24 => DecodeEncode.default24
  | .default25 => DecodeEncode.default25
  | .default26 => DecodeEncode.default26
  | .default27 => DecodeEncode.default27
  | .default28 => DecodeEncode.default28
  | .default29 => DecodeEncode.default29
  | .default2A => DecodeEncode.default2A
  | .default2B => DecodeEncode.default2B
  | .default2C => DecodeEncode.default2C
  | .default2D => DecodeEncode.default2D
  | .default2E => DecodeEncode.default2E
  | .default2F => DecodeEncode.default2F
  | .default30 => DecodeEncode.default30
  | .default31 => DecodeEncode.default31
  | .default32 => DecodeEncode.default32
  | .default33 => DecodeEncode.default33
  | .default34 => DecodeEncode.default34
  | .default35 => DecodeEncode.default35
  | .default36 => DecodeEncode.default36
  | .default37 => DecodeEncode.default37
  | .default39 => DecodeEncode.default39
  | .default3A => DecodeEncode.default3A
  | .default3B => DecodeEncode.default3B
  | .default3C => DecodeEncode.default3C
  | .default3D => DecodeEncode.default3D
  | .default3E => DecodeEncode.default3E
  | .default3F => DecodeEncode.default3F
  | .default40 => DecodeEncode.default40
  | .default41 => DecodeEncode.default41
  | .default42 => DecodeEncode.default42
  | .default43 => DecodeEncode.default43
  | .default44 => DecodeEncode.default44
  | .default45 => DecodeEncode.default45
  | .default46 => DecodeEncode.default46
  | .default47 => DecodeEncode.default47
  | .default48 => DecodeEncode.default48
  | .default49 => DecodeEncode.default49
  | .default4A => DecodeEncode.default4A
  | .default4B => DecodeEncode.default4B
  | .default4D => DecodeEncode.default4D
  | .default4E => DecodeEncode.default4E
  | .default4F => DecodeEncode.default4F
  | .default50 => DecodeEncode.default50
  | .default51 => DecodeEncode.default51
  | .default52 => DecodeEncode.default52
  | .default53 => DecodeEncode.default53
  | .default54 => DecodeEncode.default54
  | .default55 => DecodeEncode.default55
  | .default56 => DecodeEncode.default56
  | .default57 => DecodeEncode.default57
  | .default58 => DecodeEncode.default58
  | .default59 => DecodeEncode.default59
  | .default5A => DecodeEncode.default5A
  | .default5B => DecodeEncode.default5B
  | .default5C => DecodeEncode.default5C
  | .default5D => DecodeEncode.default5D
  | .default5E => DecodeEncode.default5E
  | .default5F => DecodeEncode.default5F
  | .default60 => DecodeEncode.default60
  | .default61 => DecodeEncode.default61
  | .default62 => DecodeEncode.default62
  | .default63 => DecodeEncode.default63
  | .default64 => DecodeEncode.default64
  | .default65 => DecodeEncode.default65
  | .default66 => DecodeEncode.default66
  | .default67 => DecodeEncode.default67
  | .default68 => DecodeEncode.default68
  | .default69 => DecodeEncode.default69
  | .default6A => DecodeEncode.default6A
  | .default6B => DecodeEncode.default6B
  | .default6C => DecodeEncode.default6C
  | .default6D => DecodeEncode.default6D
  | .default6E => DecodeEncode.default6E
  | .default6F => DecodeEncode.default6F
  | .default70 => DecodeEncode.default70
  | .default71 => DecodeEncode.default71
  | .default72 => DecodeEncode.default72
  | .default73 => DecodeEncode.default73
  | .default74 => DecodeEncode.default74
  | .default75 => DecodeEncode.default75
  | .default76 => DecodeEncode.default76
  | .default77 => DecodeEncode.default77
  | .default78 => DecodeEncode.default78
  | .default79 => DecodeEncode.default79
  | .default7A => DecodeEncode.default7A
  | .default7B => DecodeEncode.default7B
  | .default7C => DecodeEncode.default7C
  | .default7D => DecodeEncode.default7D
  | .default7E => DecodeEncode.default7E
  | .default7F => DecodeEncode.default7F
  | .default80 => DecodeEncode.default80
  | .default81 => DecodeEncode.default81
  | .default82 => DecodeEncode.default82
  | .default83 => DecodeEncode.default83
  | .default84 => DecodeEncode.default84
  | .default85 => DecodeEncode.default85
  | .default86 => DecodeEncode.default86
  | .default87 => DecodeEncode.default87
  | .default88 => DecodeEncode.default88
  | .default89 => DecodeEncode.default89
  | .default8A => DecodeEncode.default8A
  | .default8B => DecodeEncode.default8B
  | .default8C => DecodeEncode.default8C
  | .default8D => DecodeEncode.default8D
  | .default8E => DecodeEncode.default8E
  | .default8F => DecodeEncode.default8F
  | .default90 => DecodeEncode.default90
  | .default91 => DecodeEncode.default91
  | .default92 => DecodeEncode.default92
  | .default93 => DecodeEncode.default93
  | .default94 => DecodeEncode.default94
  | .default95 => DecodeEncode.default95
  | .default96 => DecodeEncode.default96
  | .default97 => DecodeEncode.default97
  | .default98 => DecodeEncode.default98
  | .default99 => DecodeEncode.default99
  | .default9A => DecodeEncode.default9A
  | .default9B => DecodeEncode.default9B
  | .default9C => DecodeEncode.default9C
  | .default9D => DecodeEncode.default9D
  | .default9E => DecodeEncode.default9E
  | .default9F => DecodeEncode.default9F
  | .defaultA1 => DecodeEncode.defaultA1
  | .defaultA3 => DecodeEncode.defaultA3
  | .defaultA4 => DecodeEncode.defaultA4
  | .defaultA5 => DecodeEncode.defaultA5
  | .defaultA6 => DecodeEncode.defaultA6
  | .defaultA7 => DecodeEncode.defaultA7
  | .defaultA8 => DecodeEncode.defaultA8
  | .defaultAA => DecodeEncode.defaultAA
  | .defaultAB => DecodeEncode.defaultAB
  | .defaultAC => DecodeEncode.defaultAC
  | .defaultAD => DecodeEncode.defaultAD
  | .defaultAE => DecodeEncode.defaultAE
  | .defaultAF => DecodeEncode.defaultAF
  | .defaultB0 => DecodeEncode.defaultB0
  | .defaultB1 => DecodeEncode.defaultB1
  | .defaultB2 => DecodeEncode.defaultB2
  | .defaultB3 => DecodeEncode.defaultB3
  | .defaultB4 => DecodeEncode.defaultB4
  | .defaultB5 => DecodeEncode.defaultB5
  | .defaultB6 => DecodeEncode.defaultB6
  | .defaultB7 => DecodeEncode.defaultB7
  | .defaultB8 => DecodeEncode.defaultB8
  | .defaultB9 => DecodeEncode.defaultB9
  | .defaultBA => DecodeEncode.defaultBA
  | .defaultBB => DecodeEncode.defaultBB
  | .defaultBC => DecodeEncode.defaultBC
  | .defaultBD => DecodeEncode.defaultBD
  | .defaultBE => DecodeEncode.defaultBE
  | .defaultBF => DecodeEncode.defaultBF
  | .defaultC0 => DecodeEncode.defaultC0
  | .defaultC1 => DecodeEncode.defaultC1
  | .defaultC2 => DecodeEncode.defaultC2
  | .defaultC3 => DecodeEncode.defaultC3
  | .defaultC4 => DecodeEncode.defaultC4
  | .defaultC5 => DecodeEncode.defaultC5
  | .defaultC6 => DecodeEncode.defaultC6
  | .defaultC7 => DecodeEncode.defaultC7
  | .defaultC8 => DecodeEncode.defaultC8
  | .defaultC9 => DecodeEncode.defaultC9
  | .defaultCA => DecodeEncode.defaultCA
  | .defaultCB => DecodeEncode.defaultCB
  | .defaultCC => DecodeEncode.defaultCC
  | .defaultCD => DecodeEncode.defaultCD
  | .defaultCE => DecodeEncode.defaultCE
  | .defaultCF => DecodeEncode.defaultCF
  | .defaultD0 => DecodeEncode.defaultD0
  | .defaultD1 => DecodeEncode.defaultD1
  | .defaultD2 => DecodeEncode.defaultD2
  | .defaultD3 => DecodeEncode.defaultD3
  | .defaultD4 => DecodeEncode.defaultD4
  | .defaultD5 => DecodeEncode.defaultD5
  | .defaultD6 => DecodeEncode.defaultD6
  | .defaultD7 => DecodeEncode.defaultD7
  | .defaultD8 => DecodeEncode.defaultD8
  | .defaultD9 => DecodeEncode.defaultD9
  | .defaultDA => DecodeEncode.defaultDA
  | .defaultDB => DecodeEncode.defaultDB
  | .defaultDC => DecodeEncode.defaultDC
  | .defaultDD => DecodeEncode.defaultDD
  | .defaultDE => DecodeEncode.defaultDE
  | .defaultDF => DecodeEncode.defaultDF
  | .defaultE0 => DecodeEncode.defaultE0
  | .defaultE1 => DecodeEncode.defaultE1
  | .defaultE2 => DecodeEncode.defaultE2
  | .defaultE3 => DecodeEncode.defaultE3
  | .defaultE4 => DecodeEncode.defaultE4
  | .defaultE5 => DecodeEncode.defaultE5
  | .defaultE6 => DecodeEncode.defaultE6
  | .defaultE7 => DecodeEncode.defaultE7
  | .defaultE8 => DecodeEncode.defaultE8
  | .defaultE9 => DecodeEncode.defaultE9
  | .defaultEB => DecodeEncode.defaultEB
  | .defaultEC => DecodeEncode.defaultEC
  | .defaultED => DecodeEncode.defaultED
  | .defaultEE => DecodeEncode.defaultEE
  | .defaultEF => DecodeEncode.defaultEF
  | .defaultF0 => DecodeEncode.defaultF0
  | .defaultF1 => DecodeEncode.defaultF1
  | .defaultF2 => DecodeEncode.defaultF2
  | .defaultF3 => DecodeEncode.defaultF3
  | .defaultF4 => DecodeEncode.defaultF4
  | .defaultF5 => DecodeEncode.defaultF5
  | .defaultF6 => DecodeEncode.defaultF6
  | .defaultF7 => DecodeEncode.defaultF7
  | .defaultF8 => DecodeEncode.defaultF8
  | .defaultF9 => DecodeEncode.defaultF9
  | .defaultFA => DecodeEncode.defaultFA
  | .defaultFB => DecodeEncode.defaultFB
  | .defaultFC => DecodeEncode.defaultFC
  | .defaultFD => DecodeEncode.defaultFD
  | .defaultFE => DecodeEncode.defaultFE
  | .defaultFF => DecodeEncode.defaultFF

/-- An instruction is one of the seven registered ones or runs the default handler (R104, R170). -/
theorem instr_cases (i : Instr) :
    i = .nop ∨ i = .clc ∨ i = .sec ∨ (∃ v, i = .ldaImm v) ∨ (∃ v, i = .ldxImm v) ∨ (∃ v, i = .ldyImm v) ∨
      (∃ a, i = .jmpAbs a) ∨ i.opcode ∉ registeredOpcodes := by
  cases i with
  | nop => exact .inl rfl
  | clc => exact .inr (.inl rfl)
  | sec => exact .inr (.inr (.inl rfl))
  | ldaImm v => exact .inr (.inr (.inr (.inl ⟨v, rfl⟩)))
  | ldxImm v => exact .inr (.inr (.inr (.inr (.inl ⟨v, rfl⟩))))
  | ldyImm v => exact .inr (.inr (.inr (.inr (.inr (.inl ⟨v, rfl⟩)))))
  | jmpAbs a => exact .inr (.inr (.inr (.inr (.inr (.inr (.inl ⟨a, rfl⟩))))))
  | _ => exact .inr (.inr (.inr (.inr (.inr (.inr (.inr (by decide)))))))

/-- The opcode byte of an instruction gives the length of its encoding (R106). -/
theorem instrLength_opcode (i : Instr) : instrLength i.opcode = (encode i).length := by
  have h := decode_encode i []
  rw [List.append_nil, encode] at h
  rcases Nat.lt_or_ge (i.operandBytes.length + 1) (instrLength i.opcode) with hl | hl
  · rw [decode, if_neg (Nat.not_le_of_lt hl)] at h
    exact absurd h (by simp)
  · rw [decode, if_pos hl] at h
    have hd := congrArg Prod.snd (Except.ok.inj h)
    rw [List.drop_eq_nil_iff] at hd
    exact Nat.le_antisymm hl hd

/-- An instruction is the one its own bytes decode to (R100). -/
theorem decodeFrom_encode (i : Instr) : decodeFrom (fun k => (encode i).getD k 0) = i := by
  have h := decode_encode i []
  have hl : instrLength i.opcode ≤ i.operandBytes.length + 1 := Nat.le_of_eq (instrLength_opcode i)
  rw [List.append_nil, encode, decode, if_pos hl] at h
  exact congrArg Prod.fst (Except.ok.inj h)

end Sys2Proof.Laws
end

