-- ==== Sys2Proof/Laws/Step.lean ====
section
/-! SUPPORT. What a step with a ROM loaded is, for each opcode byte at PC. -/

namespace Sys2Proof.Machine

/-- The step runs the instruction that the opcode byte at PC selects, its operand bytes read at the next offsets of the
bank (R123, R105): one of the seven registered ones, or a default instruction. -/
theorem step_cases {s : State} (h : s.romLoaded = true) :
    let op := s.memRead (mkAddr s.pb s.pc)
    let b1 := s.memRead (mkAddr s.pb (s.pc + 1))
    let b2 := s.memRead (mkAddr s.pb (s.pc + 2))
    (op = 0xEA ∧ step s = exec .nop s) ∨ (op = 0x18 ∧ step s = exec .clc s) ∨ (op = 0x38 ∧ step s = exec .sec s) ∨
      (op = 0xA9 ∧ step s = exec (.ldaImm b1) s) ∨ (op = 0xA2 ∧ step s = exec (.ldxImm b1) s) ∨
      (op = 0xA0 ∧ step s = exec (.ldyImm b1) s) ∨ (op = 0x4C ∧ step s = exec (.jmpAbs (joinBytes b1 b2)) s) ∨
      (op ∉ registeredOpcodes ∧ ∃ i : Instr, i.opcode = op ∧ step s = exec i s) := by
  intro op b1 b2
  rw [step_of_romLoaded h]
  by_cases hr : op ∈ registeredOpcodes
  · simp only [registeredOpcodes, List.mem_cons, List.not_mem_nil, or_false] at hr
    rcases hr with ho | ho | ho | ho | ho | ho | ho
    · exact .inl ⟨ho, by rw [State.fetchInstr_imp ho entryOf_nop]⟩
    · exact .inr (.inl ⟨ho, by rw [State.fetchInstr_imp ho entryOf_clc]⟩)
    · exact .inr (.inr (.inl ⟨ho, by rw [State.fetchInstr_imp ho entryOf_sec]⟩))
    · exact .inr (.inr (.inr (.inl ⟨ho, by rw [State.fetchInstr_imm8 ho entryOf_ldaImm]⟩)))
    · exact .inr (.inr (.inr (.inr (.inl ⟨ho, by rw [State.fetchInstr_imm8 ho entryOf_ldxImm]⟩))))
    · exact .inr (.inr (.inr (.inr (.inr (.inl ⟨ho, by rw [State.fetchInstr_imm8 ho entryOf_ldyImm]⟩)))))
    · exact .inr (.inr (.inr (.inr (.inr (.inr (.inl ⟨ho, by rw [State.fetchInstr_abs16 ho entryOf_jmpAbs]⟩))))))
  · obtain ⟨i, he, ho, -⟩ := entryOf_unregistered hr
    exact .inr (.inr (.inr (.inr (.inr (.inr (.inr ⟨hr, i, ho, by rw [State.fetchInstr_dflt rfl he]⟩))))))

end Sys2Proof.Machine
end

