-- ==== Sys2Proof/Tests/Slice0.lean ====
section
/-! SUPPORT. The model's own tests: the bytes of every constructor, the well-formedness checks, vectors of
spec/95_test_vectors.md ("V<n>"), and for every statement with hypotheses a witness that meets them. -/

namespace Sys2Proof.Tests

open Sys2Proof.Machine

/-- The instruction a list of bytes is, if it is exactly one. -/
def firstInstr (bytes : List Byte) : Option Instr :=
  match decode bytes with
  | .ok (i, []) => some i
  | .ok (_, _ :: _) => none
  | .error _ => none

/-- The state after one step. -/
def after (s : State) : Option State :=
  match step s with
  | .next t => some t
  | .fault _ => none
  | .refused _ => none

/-- The reset state with a short ROM bank 0 that holds some code, PC at its first byte. -/
def romCode (bytes : List Byte) : State :=
  { State.reset with rom := [.ofBytes bytes], pc := 0x8000 }

/-- The reset state with a full ROM bank 0 that holds 0x00 but for some bytes, and some WRAM bytes. -/
def romAt (cells wram : Memory) (pc : Word) : State :=
  { State.reset with rom := [⟨0x8000, cells⟩], wram := wram, pc := pc }

/-- Three ROM banks of the lengths of V1 to V19, each with 0x01 at its first byte. -/
def threeBanks : State :=
  { State.reset with rom := [⟨0x8000, [(0, 0x01)]⟩, ⟨0x8000, [(0, 0x01)]⟩, ⟨0x100, [(0, 0x01)]⟩] }

/-! ### Decoding -/

/-- Row 0x of the opcode map (R105), each instruction's bytes written out (R100 to R103). -/
theorem test_decode_row_0 :
    [[0x00], [0x01], [0x02], [0x03], [0x04], [0x05], [0x06], [0x07],
       [0x08], [0x09], [0x0A], [0x0B], [0x0C], [0x0D], [0x0E], [0x0F]].map firstInstr =
      ([.default00, .default01, .default02, .default03, .default04, .default05, .default06, .default07,
       .default08, .default09, .default0A, .default0B, .default0C, .default0D, .default0E, .default0F] : List Instr).map some := by
  decide

/-- Row 1x of the opcode map (R105), each instruction's bytes written out (R100 to R103). -/
theorem test_decode_row_1 :
    [[0x10], [0x11], [0x12], [0x13], [0x14], [0x15], [0x16], [0x17],
       [0x18], [0x19], [0x1A], [0x1B], [0x1C], [0x1D], [0x1E], [0x1F]].map firstInstr =
      ([.default10, .default11, .default12, .default13, .default14, .default15, .default16, .default17,
       .clc, .default19, .default1A, .default1B, .default1C, .default1D, .default1E, .default1F] : List Instr).map some := by
  decide

/-- Row 2x of the opcode map (R105), each instruction's bytes written out (R100 to R103). -/
theorem test_decode_row_2 :
    [[0x20], [0x21], [0x22], [0x23], [0x24], [0x25], [0x26], [0x27],
       [0x28], [0x29], [0x2A], [0x2B], [0x2C], [0x2D], [0x2E], [0x2F]].map firstInstr =
      ([.default20, .default21, .default22, .default23, .default24, .default25, .default26, .default27,
       .default28, .default29, .default2A, .default2B, .default2C, .default2D, .default2E, .default2F] : List Instr).map some := by
  decide

/-- Row 3x of the opcode map (R105), each instruction's bytes written out (R100 to R103). -/
theorem test_decode_row_3 :
    [[0x30], [0x31], [0x32], [0x33], [0x34], [0x35], [0x36], [0x37],
       [0x38], [0x39], [0x3A], [0x3B], [0x3C], [0x3D], [0x3E], [0x3F]].map firstInstr =
      ([.default30, .default31, .default32, .default33, .default34, .default35, .default36, .default37,
       .sec, .default39, .default3A, .default3B, .default3C, .default3D, .default3E, .default3F] : List Instr).map some := by
  decide

/-- Row 4x of the opcode map (R105), each instruction's bytes written out (R100 to R103). -/
theorem test_decode_row_4 :
    [[0x40], [0x41], [0x42], [0x43], [0x44], [0x45], [0x46], [0x47],
       [0x48], [0x49], [0x4A], [0x4B], [0x4C, 0x34, 0x12], [0x4D], [0x4E], [0x4F]].map firstInstr =
      ([.default40, .default41, .default42, .default43, .default44, .default45, .default46, .default47,
       .default48, .default49, .default4A, .default4B, (.jmpAbs 0x1234), .default4D, .default4E, .default4F] : List Instr).map some := by
  decide

/-- Row 5x of the opcode map (R105), each instruction's bytes written out (R100 to R103). -/
theorem test_decode_row_5 :
    [[0x50], [0x51], [0x52], [0x53], [0x54], [0x55], [0x56], [0x57],
       [0x58], [0x59], [0x5A], [0x5B], [0x5C], [0x5D], [0x5E], [0x5F]].map firstInstr =
      ([.default50, .default51, .default52, .default53, .default54, .default55, .default56, .default57,
       .default58, .default59, .default5A, .default5B, .default5C, .default5D, .default5E, .default5F] : List Instr).map some := by
  decide

/-- Row 6x of the opcode map (R105), each instruction's bytes written out (R100 to R103). -/
theorem test_decode_row_6 :
    [[0x60], [0x61], [0x62], [0x63], [0x64], [0x65], [0x66], [0x67],
       [0x68], [0x69], [0x6A], [0x6B], [0x6C], [0x6D], [0x6E], [0x6F]].map firstInstr =
      ([.default60, .default61, .default62, .default63, .default64, .default65, .default66, .default67,
       .default68, .default69, .default6A, .default6B, .default6C, .default6D, .default6E, .default6F] : List Instr).map some := by
  decide

/-- Row 7x of the opcode map (R105), each instruction's bytes written out (R100 to R103). -/
theorem test_decode_row_7 :
    [[0x70], [0x71], [0x72], [0x73], [0x74], [0x75], [0x76], [0x77],
       [0x78], [0x79], [0x7A], [0x7B], [0x7C], [0x7D], [0x7E], [0x7F]].map firstInstr =
      ([.default70, .default71, .default72, .default73, .default74, .default75, .default76, .default77,
       .default78, .default79, .default7A, .default7B, .default7C, .default7D, .default7E, .default7F] : List Instr).map some := by
  decide

/-- Row 8x of the opcode map (R105), each instruction's bytes written out (R100 to R103). -/
theorem test_decode_row_8 :
    [[0x80], [0x81], [0x82], [0x83], [0x84], [0x85], [0x86], [0x87],
       [0x88], [0x89], [0x8A], [0x8B], [0x8C], [0x8D], [0x8E], [0x8F]].map firstInstr =
      ([.default80, .default81, .default82, .default83, .default84, .default85, .default86, .default87,
       .default88, .default89, .default8A, .default8B, .default8C, .default8D, .default8E, .default8F] : List Instr).map some := by
  decide

/-- Row 9x of the opcode map (R105), each instruction's bytes written out (R100 to R103). -/
theorem test_decode_row_9 :
    [[0x90], [0x91], [0x92], [0x93], [0x94], [0x95], [0x96], [0x97],
       [0x98], [0x99], [0x9A], [0x9B], [0x9C], [0x9D], [0x9E], [0x9F]].map firstInstr =
      ([.default90, .default91, .default92, .default93, .default94, .default95, .default96, .default97,
       .default98, .default99, .default9A, .default9B, .default9C, .default9D, .default9E, .default9F] : List Instr).map some := by
  decide

/-- Row Ax of the opcode map (R105), each instruction's bytes written out (R100 to R103). -/
theorem test_decode_row_A :
    [[0xA0, 0x01], [0xA1], [0xA2, 0x7F], [0xA3], [0xA4], [0xA5], [0xA6], [0xA7],
       [0xA8], [0xA9, 0x80], [0xAA], [0xAB], [0xAC], [0xAD], [0xAE], [0xAF]].map firstInstr =
      ([(.ldyImm 0x01), .defaultA1, (.ldxImm 0x7F), .defaultA3, .defaultA4, .defaultA5, .defaultA6, .defaultA7,
       .defaultA8, (.ldaImm 0x80), .defaultAA, .defaultAB, .defaultAC, .defaultAD, .defaultAE, .defaultAF] : List Instr).map some := by
  decide

/-- Row Bx of the opcode map (R105), each instruction's bytes written out (R100 to R103). -/
theorem test_decode_row_B :
    [[0xB0], [0xB1], [0xB2], [0xB3], [0xB4], [0xB5], [0xB6], [0xB7],
       [0xB8], [0xB9], [0xBA], [0xBB], [0xBC], [0xBD], [0xBE], [0xBF]].map firstInstr =
      ([.defaultB0, .defaultB1, .defaultB2, .defaultB3, .defaultB4, .defaultB5, .defaultB6, .defaultB7,
       .defaultB8, .defaultB9, .defaultBA, .defaultBB, .defaultBC, .defaultBD, .defaultBE, .defaultBF] : List Instr).map some := by
  decide

/-- Row Cx of the opcode map (R105), each instruction's bytes written out (R100 to R103). -/
theorem test_decode_row_C :
    [[0xC0], [0xC1], [0xC2], [0xC3], [0xC4], [0xC5], [0xC6], [0xC7],
       [0xC8], [0xC9], [0xCA], [0xCB], [0xCC], [0xCD], [0xCE], [0xCF]].map firstInstr =
      ([.defaultC0, .defaultC1, .defaultC2, .defaultC3, .defaultC4, .defaultC5, .defaultC6, .defaultC7,
       .defaultC8, .defaultC9, .defaultCA, .defaultCB, .defaultCC, .defaultCD, .defaultCE, .defaultCF] : List Instr).map some := by
  decide

/-- Row Dx of the opcode map (R105), each instruction's bytes written out (R100 to R103). -/
theorem test_decode_row_D :
    [[0xD0], [0xD1], [0xD2], [0xD3], [0xD4], [0xD5], [0xD6], [0xD7],
       [0xD8], [0xD9], [0xDA], [0xDB], [0xDC], [0xDD], [0xDE], [0xDF]].map firstInstr =
      ([.defaultD0, .defaultD1, .defaultD2, .defaultD3, .defaultD4, .defaultD5, .defaultD6, .defaultD7,
       .defaultD8, .defaultD9, .defaultDA, .defaultDB, .defaultDC, .defaultDD, .defaultDE, .defaultDF] : List Instr).map some := by
  decide

/-- Row Ex of the opcode map (R105), each instruction's bytes written out (R100 to R103). -/
theorem test_decode_row_E :
    [[0xE0], [0xE1], [0xE2], [0xE3], [0xE4], [0xE5], [0xE6], [0xE7],
       [0xE8], [0xE9], [0xEA], [0xEB], [0xEC], [0xED], [0xEE], [0xEF]].map firstInstr =
      ([.defaultE0, .defaultE1, .defaultE2, .defaultE3, .defaultE4, .defaultE5, .defaultE6, .defaultE7,
       .defaultE8, .defaultE9, .nop, .defaultEB, .defaultEC, .defaultED, .defaultEE, .defaultEF] : List Instr).map some := by
  decide

/-- Row Fx of the opcode map (R105), each instruction's bytes written out (R100 to R103). -/
theorem test_decode_row_F :
    [[0xF0], [0xF1], [0xF2], [0xF3], [0xF4], [0xF5], [0xF6], [0xF7],
       [0xF8], [0xF9], [0xFA], [0xFB], [0xFC], [0xFD], [0xFE], [0xFF]].map firstInstr =
      ([.defaultF0, .defaultF1, .defaultF2, .defaultF3, .defaultF4, .defaultF5, .defaultF6, .defaultF7,
       .defaultF8, .defaultF9, .defaultFA, .defaultFB, .defaultFC, .defaultFD, .defaultFE, .defaultFF] : List Instr).map some := by
  decide

/-- An operand byte that is missing is refused by name, as is an empty list (R106). -/
theorem test_decode_truncated :
    decode [] = .error .noOpcode ∧ decode [0xA9] = .error (.truncated 0xA9) ∧ decode [0x4C, 0x34] = .error (.truncated 0x4C) := by
  exact ⟨rfl, rfl, rfl⟩

/-- Bytes after an instruction are left (R100). -/
theorem test_decode_rest : decode [0xA9, 0x05, 0x4C] = .ok (.ldaImm 0x05, [0x4C]) := rfl

/-- The encoder writes the low byte of a jump's operand first (R103). -/
theorem test_encode_jmp : encode (.jmpAbs 0x1234) = [0x4C, 0x34, 0x12] ∧ encode (.ldxImm 0xFF) = [0xA2, 0xFF] := by decide

/-- Table words: the operand of a word is above the opcode byte, and a bit at or above nbits is zero. -/
theorem test_decodeTableWord :
    decodeTableWord 8 0xEA = some .nop ∧ decodeTableWord 16 0x80A9 = some (.ldaImm 0x80) ∧
    decodeTableWord 24 0x12344C = some (.jmpAbs 0x1234) ∧ decodeTableWord 8 0x80A9 = some (.ldaImm 0x00) := by decide

/-- The bytes of Program 1, assembled from the lines of R109. -/
theorem test_assemble_program_1 :
    assemble [.sec, .lda 0x80, .ldx 0x00, .ldy 0x7F, .clc, .nop, .jmp 0x8009] =
      [0x38, 0xA9, 0x80, 0xA2, 0x00, 0xA0, 0x7F, 0x18, 0xEA, 0x4C, 0x09, 0x80] := by decide

/-! ### Well-formedness: an ill-formed term for each check -/

/-- An immediate of LDA does not exceed 0xFF (R109). -/
theorem test_wf_refuses_lda : AsmLine.wf (.lda 0x100) = false ∧ AsmLine.wf (.lda 0xFF) = true := by decide
/-- An immediate of LDX does not exceed 0xFF (R109). -/
theorem test_wf_refuses_ldx : AsmLine.wf (.ldx 0x100) = false ∧ AsmLine.wf (.ldx 0xFF) = true := by decide
/-- An immediate of LDY does not exceed 0xFF (R109). -/
theorem test_wf_refuses_ldy : AsmLine.wf (.ldy 0x100) = false ∧ AsmLine.wf (.ldy 0xFF) = true := by decide
/-- A jump's operand does not exceed 0xFFFF (R109). -/
theorem test_wf_refuses_jmp : AsmLine.wf (.jmp 0x10000) = false ∧ AsmLine.wf (.jmp 0xFFFF) = true := by decide
/-- A .byte is a byte (R109). -/
theorem test_wf_refuses_byte : AsmLine.wf (.byte 0x100) = false ∧ AsmLine.wf (.byte 0xFF) = true := by decide
/-- One ill-formed line makes the program ill formed. -/
theorem test_programWf : AsmLine.programWf [.nop, .lda 0x100] = false ∧ AsmLine.programWf [.clc, .sec, .nop] = true := by decide

/-! ### Instructions, one step each -/

/-- V35 and V39b: NOP, and PC wrapping inside its bank. -/
theorem test_nop :
    (after (romCode [0xEA])).map (fun t => (t.pc, t.p, t.cyc)) = some (0x8001, 0x34, 2) ∧
    (after (romAt [(0x7FFF, 0xEA)] [] 0xFFFF)).map (fun t => (t.pc, t.pb)) = some (0x0000, 0x00) := by decide

/-- V37: CLC on P = 0xFF. -/
theorem test_clc :
    (after { romCode [0x18] with p := 0xFF }).map (fun t => (t.pc, t.p, t.cyc)) = some (0x8001, 0xFE, 2) := by decide

/-- V39: SEC on P = 0x00. -/
theorem test_sec :
    (after { romCode [0x38] with p := 0x00 }).map (fun t => (t.pc, t.p, t.cyc)) = some (0x8001, 0x01, 2) := by decide

/-- V42 and V44: LDA #$80 sets N; LDA #$01 on P = 0xFF clears N and Z and keeps the rest. -/
theorem test_lda :
    (after (romCode [0xA9, 0x80])).map (fun t => (t.pc, t.a, t.p, t.cyc)) = some (0x8002, 0x0080, 0xB4, 2) ∧
    (after { romCode [0xA9, 0x01] with a := 0xFFFF, p := 0xFF }).map (fun t => (t.a, t.p)) = some (0x0001, 0x7D) := by decide

/-- V51: the operand is fetched across the bank's end. -/
theorem test_lda_wraps :
    (after (romAt [(0x7FFF, 0xA9)] [(0x0000, 0x42)] 0xFFFF)).map (fun t => (t.pc, t.pb, t.a, t.p)) =
      some (0x0001, 0x00, 0x0042, 0x34) := by decide

/-- V46 and V47: LDX #$00 and LDX #$FF. -/
theorem test_ldx :
    (after { romCode [0xA2, 0x00] with x := 0x00FF, p := 0xB4 }).map (fun t => (t.pc, t.x, t.p)) = some (0x8002, 0x0000, 0x36) ∧
    (after { romCode [0xA2, 0xFF] with p := 0x35 }).map (fun t => (t.x, t.p)) = some (0x00FF, 0xB5) := by decide

/-- V48 and V53: LDY #$7F; LDY with its operand at an unmapped address. -/
theorem test_ldy :
    (after { romCode [0xA0, 0x7F] with y := 0x0080, p := 0x36 }).map (fun t => (t.pc, t.y, t.p)) = some (0x8002, 0x007F, 0x34) ∧
    (after (romAt [] [(0x1FFF, 0xA0)] 0x1FFF)).map (fun t => (t.pc, t.y, t.p)) = some (0x2001, 0x0000, 0x36) := by decide

/-- V60 and V64: JMP abs, and one whose operand straddles the bank's end. -/
theorem test_jmp :
    (after (romCode [0x4C, 0x34, 0x12])).map (fun t => (t.pc, t.pb, t.p, t.cyc)) = some (0x1234, 0x00, 0x34, 3) ∧
    (after (romAt [(0x7FFE, 0x4C), (0x7FFF, 0x34)] [(0x0000, 0x12)] 0xFFFE)).map State.pc = some 0x1234 := by decide

/-- V70 to V74: the bytes 0x00, 0xAD, 0xFB, 0xC2 and 0xDB run the default handler, which changes PC and CYC only. -/
theorem test_default :
    [0x00, 0xAD, 0xFB, 0xC2, 0xDB].map (fun op => after (romCode [op, 0x30])) =
      [0x00, 0xAD, 0xFB, 0xC2, 0xDB].map (fun op => some { romCode [op, 0x30] with pc := 0x8001, cyc := 2 }) := by decide

/-- V76 and V77: with no ROM loaded a step changes nothing, though WRAM holds code at PC. -/
theorem test_no_rom :
    after { State.reset with wram := [(0, 0xEA)] } = some { State.reset with wram := [(0, 0xEA)] } := by decide

/-- A table word placed after reset is what the next step runs (log 4). -/
theorem test_withFetchWord :
    (after (State.reset.withFetchWord 24 0x12344C)).map (fun t => (t.pc, t.cyc)) = some (0x1234, 3) ∧
    (after (State.reset.withFetchWord 16 0x80A9)).map (fun t => (t.pc, t.a, t.p)) = some (0x0002, 0x0080, 0xB4) := by decide

/-! ### Memory, reset, PPU, controller -/

/-- V1 to V19: the routing of the decoder. -/
theorem test_decodeAddr :
    [0x7E1234, 0x7F1234, 0x3F0100, 0x400100, 0xFF0100, 0x7F0100, 0x001FFF].map threeBanks.decodeAddr =
      [.wram 0x01234, .wram 0x11234, .wram 0x0100, .wram 0x0100, .wram 0x0100, .wram 0x10100, .wram 0x1FFF] ∧
    [0x008000, 0x00FFFF, 0x018000, 0x0280FF, 0x818000, 0x80FFFF].map threeBanks.decodeAddr =
      [.rom 0 0, .rom 0 0x7FFF, .rom 1 0, .rom 2 0xFF, .rom 1 0, .rom 0 0x7FFF] ∧
    [0x002000, 0x007FFF, 0x402000, 0x7D7FFF, 0x806000, 0x028100, 0x038000, 0x408000, 0x7D8000, 0x838000, 0xC08000, 0xFF8000].all
      (fun addr => threeBanks.decodeAddr addr == .unmapped) = true := by decide

/-- V110 and V111: a mirror write is seen in every bank but 0x7F. -/
theorem test_memWrite_mirror :
    [0x000100, 0x7E0100, 0x7F0100].map ((State.reset.memWrite 0x800100 0x55).memWrite 0x7F0100 0x66).memRead =
      [0x55, 0x55, 0x66] := by decide

/-- V112 to V114: writes to ROM and to an unmapped address are dropped; WRAM[0x2000] is reached through bank 0x7E only. -/
theorem test_memWrite_dropped :
    threeBanks.memWrite 0x008000 0xEA = threeBanks ∧ threeBanks.memWrite 0x002000 0x77 = threeBanks ∧
    [0x7E2000, 0x002000].map (State.reset.memWrite 0x7E2000 0x88).memRead = [0x88, 0x00] := by decide

/-- V115: a host address is taken modulo 2^24 (D30). -/
theorem test_hostAddr : hostAddr 0x1000100 = 0x000100 := by decide

/-- V22, V23, V25, V26, V28, V30: how many banks an image of so many bytes has. -/
theorem test_bankCount :
    [0, 513, 1024, 0x8000, 0x8001, 0x10000, 0x200000].map bankCount = [0, 1, 1, 1, 2, 2, 64] := by decide

/-- V21: an image of 512 bytes is a copier header only, and leaves no ROM (D12). -/
theorem test_loadRom_header : (threeBanks.loadRom (List.replicate 512 0x01)).rom = [] := by
  have hne : List.replicate 512 (0x01 : Byte) ≠ [] := by
    rw [ne_eq, List.replicate_eq_nil_iff]
    decide
  have hs : stripHeader (List.replicate 512 (0x01 : Byte)) = [] := by
    unfold stripHeader
    rw [List.length_replicate, if_pos (by decide), List.drop_replicate]
    rfl
  rw [State.loadRom_eq _ hne, hs]
  rfl

/-- V78: CpuReset keeps A, DB and CYC. -/
theorem test_cpuReset :
    ({ romAt [(0x7FFD, 0x80)] [] 0x1234 with a := 0x1234, db := 0x7E, cyc := 50, p := 0xFF, e := false, sp := 0 }).cpuReset =
      { romAt [(0x7FFD, 0x80)] [] 0x8000 with a := 0x1234, db := 0x7E, cyc := 50 } := by decide

/-- V94 and V92: the frame edge, and a line below the visible ones. -/
theorem test_ppuStep_edge :
    (({ State.reset with scanline := 261 }).ppuStep Config.pixelFn) = (State.reset, true) ∧
    (({ State.reset with scanline := 224 }).ppuStep Config.pixelFn) = ({ State.reset with scanline := 225 }, false) :=
  ⟨rfl, rfl⟩

/-- V103 and V105: the serialized words. -/
theorem test_serialize :
    serialWord ((State.reset.press "a").press "start").serialize = 0x1080 ∧
    serialWord ((canonicalOrder.map Button.name).foldl State.press State.reset).serialize = 0xFFF0 := by decide

/-- V106: unrecognized names change nothing and read false. -/
theorem test_unknown_names :
    ((State.reset.press "A").press "turbo").release "foo" = State.reset ∧ State.reset.isPressed "turbo" = false := by decide

/-! ### Witnesses: a state and operands that meet each statement's hypotheses -/

/-- A NOP at PC in ROM; an unmapped PC. -/
theorem witness_NopChangesOnlyPcAndCyc :
    (romCode [0xEA]).romLoaded = true ∧ (romCode [0xEA]).memRead (mkAddr (romCode [0xEA]).pb (romCode [0xEA]).pc) = 0xEA ∧
    State.decodeAddr { State.reset with pc := 0x2000 } (mkAddr 0x00 0x2000) = .unmapped := by decide

/-- A CLC at PC in ROM. -/
theorem witness_ClcClearsCarryOnly :
    (romCode [0x18]).romLoaded = true ∧ (romCode [0x18]).memRead (mkAddr (romCode [0x18]).pb (romCode [0x18]).pc) = 0x18 := by
  decide

/-- A SEC at PC in ROM. -/
theorem witness_SecSetsCarryOnly :
    (romCode [0x38]).romLoaded = true ∧ (romCode [0x38]).memRead (mkAddr (romCode [0x38]).pb (romCode [0x38]).pc) = 0x38 := by
  decide

/-- LDA #$80 at PC in ROM. -/
theorem witness_LdaImmediateLoadsA :
    (romCode [0xA9, 0x80]).romLoaded = true ∧ (romCode [0xA9, 0x80]).memRead (mkAddr 0x00 0x8000) = 0xA9 ∧
    (romCode [0xA9, 0x80]).memRead (mkAddr 0x00 (0x8000 + 1)) = 0x80 := by decide

/-- LDX #$00 at PC in ROM. -/
theorem witness_LdxImmediateLoadsX :
    (romCode [0xA2, 0x00]).romLoaded = true ∧ (romCode [0xA2, 0x00]).memRead (mkAddr 0x00 0x8000) = 0xA2 ∧
    (romCode [0xA2, 0x00]).memRead (mkAddr 0x00 (0x8000 + 1)) = 0x00 := by decide

/-- LDY #$7F at the last byte of bank 0, the operand in WRAM. -/
theorem witness_LdyImmediateLoadsY :
    (romAt [(0x7FFF, 0xA0)] [(0, 0x7F)] 0xFFFF).romLoaded = true ∧
    (romAt [(0x7FFF, 0xA0)] [(0, 0x7F)] 0xFFFF).memRead (mkAddr 0x00 0xFFFF) = 0xA0 ∧
    (romAt [(0x7FFF, 0xA0)] [(0, 0x7F)] 0xFFFF).memRead (mkAddr 0x00 (0xFFFF + 1)) = 0x7F := by decide

/-- A JMP at PC in ROM. -/
theorem witness_JmpAbsSetsPcInTheBank :
    (romCode [0x4C, 0x34, 0x12]).romLoaded = true ∧ (romCode [0x4C, 0x34, 0x12]).memRead (mkAddr 0x00 0x8000) = 0x4C := by
  decide

/-- The first and the last default instruction; an unregistered byte at PC in ROM. -/
theorem witness_DefaultHandlerChangesOnlyPcAndCyc :
    Instr.default00.opcode ∉ registeredOpcodes ∧ Instr.defaultFF.opcode ∉ registeredOpcodes ∧
    (romCode [0xFF]).romLoaded = true ∧ (romCode [0xFF]).memRead (mkAddr 0x00 0x8000) ∉ registeredOpcodes := by decide

/-- Three bytes at PC that begin with LDA #$80. -/
theorem witness_StepRunsDecodedInstruction :
    (romCode [0xA9, 0x80, 0xEA]).romLoaded = true ∧
    decode [(romCode [0xA9, 0x80, 0xEA]).memRead (mkAddr 0x00 0x8000), (romCode [0xA9, 0x80, 0xEA]).memRead (mkAddr 0x00 (0x8000 + 1)),
      (romCode [0xA9, 0x80, 0xEA]).memRead (mkAddr 0x00 (0x8000 + 2))] = .ok (.ldaImm 0x80, [0xEA]) := by
  have h : [(romCode [0xA9, 0x80, 0xEA]).memRead (mkAddr 0x00 0x8000), (romCode [0xA9, 0x80, 0xEA]).memRead (mkAddr 0x00 (0x8000 + 1)),
      (romCode [0xA9, 0x80, 0xEA]).memRead (mkAddr 0x00 (0x8000 + 2))] = [0xA9, 0x80, 0xEA] := by decide
  rw [h]
  exact ⟨by decide, rfl⟩

/-- The encoding of JMP $1234 stands at PC. -/
theorem witness_EncodedInstructionInMemoryRuns :
    (romCode [0x4C, 0x34, 0x12]).romLoaded = true ∧
    ∀ k (h : k < (encode (.jmpAbs 0x1234)).length),
      (romCode [0x4C, 0x34, 0x12]).memRead (mkAddr 0x00 (0x8000 + BitVec.ofNat 16 k)) = (encode (.jmpAbs 0x1234))[k] := by decide

/-- No ROM at reset; one bank loaded. -/
theorem witness_StepWithoutRomChangesNothing :
    State.reset.romLoaded = false ∧ (romCode [0x00]).romLoaded = true ∧ 1 ≤ (romCode [0x00]).rom.length := by decide

/-- A loaded ROM, with each opcode byte the clauses of PcAfterStep and CyclesAfterStep tell apart at PC. -/
theorem witness_PcAfterStep_CyclesAfterStep :
    [0x4C, 0xA9, 0xA2, 0xA0, 0xEA, 0x00].all
      (fun op => (romCode [op, 0x01, 0x02]).romLoaded && (romCode [op, 0x01, 0x02]).memRead (mkAddr 0x00 0x8000) == op) = true := by
  decide

/-- CLC changes bit 0, LDA # bits 1 and 7 of some P. -/
theorem witness_FlagsWrittenOnlyByTheirInstructions :
    (setFlag 0xFF .c false).getLsbD 0 ≠ (0xFF : Byte).getLsbD 0 ∧ (setNz 0x34 0x00).getLsbD 1 ≠ (0x34 : Byte).getLsbD 1 ∧
    (setNz 0x34 0x80).getLsbD 7 ≠ (0x34 : Byte).getLsbD 7 := by decide

/-- Two different states that agree on PC, PB, WRAM and ROM, PC at a load. -/
theorem witness_StepIgnoresRegistersNoInstructionReads :
    romCode [0xA9, 0x80] ≠ { romCode [0xA9, 0x80] with a := 1, p := 0xFF, e := false } ∧
    (romCode [0xA9, 0x80]).pc = State.pc { romCode [0xA9, 0x80] with a := 1, p := 0xFF, e := false } ∧
    (romCode [0xA9, 0x80]).pb = State.pb { romCode [0xA9, 0x80] with a := 1, p := 0xFF, e := false } ∧
    (romCode [0xA9, 0x80]).wram = State.wram { romCode [0xA9, 0x80] with a := 1, p := 0xFF, e := false } ∧
    (romCode [0xA9, 0x80]).rom = State.rom { romCode [0xA9, 0x80] with a := 1, p := 0xFF, e := false } := by decide

/-- Two unmapped bytes at PC, a ROM loaded. -/
theorem witness_UnmappedRunTakesDefaultSteps :
    State.romLoaded { romCode [0x00] with pc := 0x2000 } = true ∧
    ∀ k < 2, State.decodeAddr { romCode [0x00] with pc := 0x2000 } (mkAddr 0x00 (0x2000 + BitVec.ofNat 16 k)) = .unmapped := by decide

/-- A word of the table and the reset state. -/
theorem witness_PlacedTableWordRunsNext :
    State.reset.wram.wf = true ∧ decodeTableWord 24 0x12344C = some (.jmpAbs 0x1234) := by decide

/-- Both sides of ProgramBytesRoundTrip hold of two instructions. -/
theorem witness_ProgramBytesRoundTrip :
    decodeN 2 [0xA9, 0x80, 0xEA, 0x4C] = .ok ([.ldaImm 0x80, .nop], [0x4C]) := rfl

/-- Just enough bytes after an opcode, and one too few. -/
theorem witness_OpcodeAloneGivesTheLength :
    (3 ≤ [0x34, 0x12].length + 1) ∧ ([0x34].length + 1 < 3) ∧ (2 ≤ [0x80].length + 1) ∧ (([] : List Byte).length + 1 < 2) ∧
    (1 ≤ ([] : List Byte).length + 1) := by decide

/-- Lines at the ends of their ranges. -/
theorem witness_AssembledLinesDecode :
    AsmLine.wf (.lda 0) = true ∧ AsmLine.wf (.ldx 0xFF) = true ∧ AsmLine.wf (.ldy 0xFF) = true ∧ AsmLine.wf (.jmp 0xFFFF) = true := by
  decide

/-- The last mirror offset, in bank 0x7F and in another. -/
theorem witness_MirrorInEveryBankButOne :
    (0x1FFF : Word).toNat < 0x2000 ∧ (0x7E : Byte) ≠ 0x7F ∧
    threeBanks.decodeAddr (mkAddr 0x7E 0x1FFF) = .wram 0x1FFF ∧ threeBanks.decodeAddr (mkAddr 0x7F 0x1FFF) = .wram 0x11FFF := by
  decide

/-- Each clause of the address map at the two ends of its ranges, with the routes of the three-bank ROM. -/
theorem witness_AddressMapOfTheWholeSpace :
    ([(0x00, 0x0000), (0x3F, 0x1FFF), (0x40, 0x0000), (0x7D, 0x1FFF), (0x7E, 0x0000), (0x7E, 0xFFFF), (0x7F, 0x0000),
      (0x7F, 0xFFFF), (0x80, 0x0000), (0xFF, 0x1FFF)] : List (Byte × Word)).map (fun q => threeBanks.decodeAddr (mkAddr q.1 q.2)) =
      [.wram 0, .wram 0x1FFF, .wram 0, .wram 0x1FFF, .wram 0, .wram 0xFFFF, .wram 0x10000, .wram 0x1FFFF, .wram 0, .wram 0x1FFF] ∧
    ([(0x00, 0x2000), (0x3F, 0x7FFF), (0x40, 0x2000), (0x7D, 0xFFFF), (0x80, 0x2000), (0xFF, 0x7FFF), (0x3F, 0x8000),
      (0xFF, 0xFFFF)] : List (Byte × Word)).all (fun q => threeBanks.decodeAddr (mkAddr q.1 q.2) == .unmapped) = true ∧
    ([(0x00, 0x8000), (0x02, 0x80FF), (0x80, 0x8000), (0x82, 0x80FF)] : List (Byte × Word)).map
      (fun q => threeBanks.decodeAddr (mkAddr q.1 q.2)) = [.rom 0 0, .rom 2 0xFF, .rom 0 0, .rom 2 0xFF] := by decide

/-- The three routes of a read and of a write. -/
theorem witness_ReadsGiveTheRoutedByte_WritesStoreOneWramByteOrNothing :
    threeBanks.decodeAddr 0x7FFFFF = .wram 0x1FFFF ∧ threeBanks.decodeAddr 0x0280FF = .rom 2 0xFF ∧
    threeBanks.decodeAddr 0x028100 = .unmapped ∧ threeBanks.wram.wf = true ∧ Memory.wf [(0, 1), (0x1FFFF, 0xFF)] = true := by decide

/-- A WRAM that is canonical, an address that aliases the written one and one that does not. -/
theorem witness_ReadAfterWrite :
    State.reset.wram.wf = true ∧ State.reset.isWram 0x800100 = true ∧
    State.reset.decodeAddr 0x000100 = State.reset.decodeAddr 0x800100 ∧
    State.reset.decodeAddr 0x7F0100 ≠ State.reset.decodeAddr 0x800100 := by decide

/-- Two different states with the same WRAM and ROM. -/
theorem witness_ReadsSeeOnlyWramAndRom :
    threeBanks ≠ { threeBanks with sram := [(0, 1)] } ∧ threeBanks.rom = State.rom { threeBanks with sram := [(0, 1)] } := by decide

/-- Images with and without a header; the last byte of one. -/
theorem witness_LoadRomCutsTheImageIntoBanks :
    ([0x01, 0x02] : List Byte) ≠ [] ∧ (List.replicate 512 (0x00 : Byte)).length % 1024 = 512 ∧
    0 * 0x8000 + 1 < ([0x01, 0x02] : List Byte).length ∧ ¬ 0 * 0x8000 + 2 < ([0x01, 0x02] : List Byte).length := by
  rw [List.length_replicate]
  decide

/-- An image of one full bank of equal bytes becomes that bank (R70). -/
theorem loadRom_replicate {n : Nat} (hn : n = 0x8000) (v : Byte) :
    State.reset.loadRom (List.replicate n v) = { State.reset with rom := [⟨0x8000, Memory.ofBytes 0 (List.replicate n v)⟩] } := by
  have hne : List.replicate n v ≠ [] := by
    rw [ne_eq, List.replicate_eq_nil_iff]
    omega
  have hs : stripHeader (List.replicate n v) = List.replicate n v := by
    unfold stripHeader
    rw [List.length_replicate, if_neg (by omega)]
  have hc : bankCount n = 1 := by
    rw [hn]
    rfl
  rw [State.loadRom_eq _ hne, hs, List.length_replicate, hc]
  simp only [romBanks, RomBank.ofBytes, List.take_replicate, List.length_replicate]
  rw [show min Config.romBankSize n = n by rw [hn]; rfl, hn]

/-- An image of 0x8000 bytes 0x80: after LoadRom and CpuReset the vector 0x8080 lies in ROM. -/
theorem boot_replicate {n : Nat} (hn : n = 0x8000) :
    List.replicate n (0x80 : Byte) ≠ [] ∧ 0x8000 ≤ ((State.reset.loadRom (List.replicate n 0x80)).cpuReset).pc.toNat := by
  constructor
  · rw [ne_eq, List.replicate_eq_nil_iff]
    omega
  · have hr : ∀ i < n, (Memory.ofBytes 0 (List.replicate n 0x80)).read i = 0x80 := by
      intro i hi
      have h := Memory.read_ofBytes 0 i (List.replicate n (0x80 : Byte))
      rw [Nat.zero_add, List.getD_eq_getElem _ _ (by rwa [List.length_replicate]), List.getElem_replicate] at h
      exact h
    rw [loadRom_replicate hn]
    generalize Memory.ofBytes 0 (List.replicate n 0x80) = cells at hr
    have h : (State.cpuReset { State.reset with rom := [⟨0x8000, cells⟩] }).pc =
        joinBytes (cells.read 0x7FFC) (cells.read 0x7FFD) := rfl
    rw [h, hr _ (by omega), hr _ (by omega)]
    decide

/-- An image that is not empty and whose vector lies in ROM. -/
theorem witness_BootFromImage :
    List.replicate 0x8000 (0x80 : Byte) ≠ [] ∧
      0x8000 ≤ ((State.reset.loadRom (List.replicate 0x8000 0x80)).cpuReset).pc.toNat :=
  boot_replicate rfl

/-- No ROM loaded. -/
theorem witness_CpuResetWritesOnlyFiveRegisters : State.reset.rom = [] := rfl

/-- A canonical framebuffer, a visible line, a line below. -/
theorem witness_PpuStepRendersOneLine :
    State.reset.fb.wf = true ∧ (767 / 768 ≠ 223) ∧ 224 ≤ State.scanline { State.reset with scanline := 224 } := by decide

/-- The first and the last scanline. -/
theorem witness_ScanlineReturnsAfter262Steps_FrameEdgesCounted :
    State.reset.scanline < 262 ∧ State.scanline { State.reset with scanline := 261 } < 262 := by decide

/-- The last scanline and a framebuffer that is not empty. -/
theorem witness_FrameIsWholeAfter262Steps :
    State.scanline { State.reset with scanline := 261, fb := [(172031, 0xFF)] } < 262 ∧
    State.fb { State.reset with scanline := 261, fb := [(172031, 0xFF)] } = [(172031, 0xFF)] ∧ Memory.wf [(172031, 0xFF)] = true := by
  decide

/-- A name that is no button's; a button other than the named one. -/
theorem witness_ReleaseClearsTheNamedButton_PressSetsTheNamedButton :
    (∀ btn : Button, btn.name ≠ "turbo") ∧ (∀ btn : Button, btn.name ≠ "A") ∧ Button.start ≠ .a := by
  refine ⟨fun btn => ?_, fun btn => ?_, by decide⟩ <;> cases btn <;> decide

/-- A wide host integer whose low 24 bits are a mirror address, one routed elsewhere, and one that is unmapped, over a
canonical WRAM; names of another button and of none. -/
theorem witness_HostOperationsWriteOnlyTheirState :
    State.reset.wram.wf = true ∧ State.reset.decodeAddr (BitVec.ofNat 24 0x1800100) = .wram 0x100 ∧
    State.reset.decodeAddr (BitVec.ofNat 24 0x1800100) ≠ .wram 0x101 ∧
    State.reset.decodeAddr (BitVec.ofNat 24 0x1002000) = .unmapped ∧ Button.b.name ≠ "a" ∧
    ∀ c : Button, c.name ≠ "turbo" := by
  refine ⟨by decide, by decide, by decide, by decide, by decide, fun c => ?_⟩
  cases c <;> decide

/-- A name that is no button's. -/
theorem witness_HostOperationsAnswerTheirOutputs : ∀ c : Button, c.name ≠ "turbo" := by
  intro c
  cases c <;> decide

/-- A legal state that is not the reset state: ROM, WRAM and framebuffer hold bytes. -/
theorem witness_StepKeepsLegalStates_HostOperationsKeepLegalStates :
    State.Legal { romAt [(0x7FFF, 0xA0)] [(0, 0x7F), (0x1FFFF, 0x01)] 0xFFFF with scanline := 261, fb := [(172031, 0xFF)] } := by
  decide

/-- Legal contents at construction. -/
theorem witness_ResetAndConstructionAreLegal :
    MemPowerOn.Legal ⟨[(0x1FFFF, 0x01)], [(0x7FFF, 0x01)], [(0xFFFF, 0x01)], [(511, 0x01)], [(543, 0x01)]⟩ := by decide

/-- The state after LoadRom, CpuReset and CpuStep from a construction is reachable. -/
theorem witness_ReachableStatesAreLegal :
    ∃ s : State, s.Reachable ∧ s.cyc = 2 := by
  exact ⟨_, ⟨⟨0, 0, 0, 0, 0, 0, 0, 0, false⟩, ⟨[(0, 0xEA)], [], [], [], []⟩, [.loadRom [0x38], .cpuReset, .cpuStep], _, by decide, rfl⟩, rfl⟩

/-- The reset state is in the mode a CpuReset leaves. -/
theorem witness_ResetModeLastsForever : State.reset.InResetMode := by decide

end Sys2Proof.Tests
end

section
/-! PROOFS of the state family (10_state.md): what a step does as one update that does not depend on the registers it
updates, the state each host operation writes, and the outputs it answers. -/

namespace Sys2Proof.Machine

/-! ### The effect of an instruction -/

/-- What an instruction does to a state: the registers it loads (none: left alone), how PC and P change, the cost. The
record is made from the instruction alone, so what an effect does not name decides nothing. -/
structure Effect where
  a : Option Word := none
  x : Option Word := none
  y : Option Word := none
  pc : Word → Word
  p : Byte → Byte := id
  cost : Nat := 2

/-- The state after an effect: six fields written, the others as they were. -/
def Effect.apply (e : Effect) (s : State) : State :=
  { s with a := e.a.getD s.a, x := e.x.getD s.x, y := e.y.getD s.y, pc := e.pc s.pc, p := e.p s.p, cyc := s.cyc + e.cost }

/-- The effect of a step with no ROM loaded: nothing (R124). -/
def Effect.nothing : Effect := { pc := id, cost := 0 }

/-- The effect of each instruction (R140 to R160); the 249 default ones and NOP only move PC (R170). -/
def effectOf : Instr → Effect
  | .clc => { pc := (· + 1), p := (setFlag · .c false) }
  | .sec => { pc := (· + 1), p := (setFlag · .c true) }
  | .ldaImm v => { a := immValue v, pc := (· + 2), p := (setNz · v) }
  | .ldxImm v => { x := immValue v, pc := (· + 2), p := (setNz · v) }
  | .ldyImm v => { y := immValue v, pc := (· + 2), p := (setNz · v) }
  | .jmpAbs target => { pc := fun _ => target, cost := 3 }
  | _ => { pc := (· + 1) }

/-- The effect of the next step: that of the instruction at PC, nothing if no ROM is loaded (R123, R124). -/
def State.stepEffect (s : State) : Effect :=
  if s.romLoaded then effectOf s.fetchInstr else .nothing

/-- Running an instruction applies its effect: the meaning of each constructor unfolds to that update. -/
theorem exec_eq_apply_effectOf (i : Instr) (s : State) : exec i s = .next ((effectOf i).apply s) := by
  cases i with
  | _ => rfl

/-- A step always completes, and applies the step's effect. -/
theorem step_eq_apply_stepEffect (s : State) : step s = .next (s.stepEffect.apply s) := by
  unfold State.stepEffect
  cases h : s.romLoaded with
  | true => rw [step_of_romLoaded h, if_pos rfl, exec_eq_apply_effectOf]
  | false => rw [step_of_not_romLoaded h]; rfl

/-- The instruction at PC is read from PC, PB, WRAM and ROM alone (R28, R67). -/
theorem State.fetchInstr_congr {s u : State} (hpc : s.pc = u.pc) (hpb : s.pb = u.pb) (hwram : s.wram = u.wram)
    (hrom : s.rom = u.rom) : s.fetchInstr = u.fetchInstr := by
  have hbyte : s.instrByte = u.instrByte := by
    funext k
    simp only [State.instrByte, State.fetchAddr, hpc, hpb, State.memRead_congr hrom hwram]
  rw [State.fetchInstr, State.fetchInstr, hbyte]

/-- The next step's effect depends on PC, PB, WRAM and ROM alone. -/
theorem State.stepEffect_congr {s u : State} (hpc : s.pc = u.pc) (hpb : s.pb = u.pb) (hwram : s.wram = u.wram)
    (hrom : s.rom = u.rom) : s.stepEffect = u.stepEffect := by
  rw [State.stepEffect, State.stepEffect, State.fetchInstr_congr hpc hpb hwram hrom, State.romLoaded, State.romLoaded, hrom]

/-! ### Effects act alike on any two states -/

/-- A value loaded or left alone: from any two values before, the same one after, or each as it was. -/
theorem getD_eq_or_unchanged {α : Type} (loaded : Option α) (before before' : α) :
    loaded.getD before = loaded.getD before' ∨ (loaded.getD before = before ∧ loaded.getD before' = before') := by
  cases loaded with
  | none => exact .inr ⟨rfl, rfl⟩
  | some v => exact .inl rfl

/-- A function of P that gives each bit a value of its own or leaves it alone, whatever P holds. -/
def SetsOrKeepsBits (f : Byte → Byte) : Prop :=
  ∀ (p q : Byte) (k : Nat), (f p).getLsbD k = (f q).getLsbD k ∨
    ((f p).getLsbD k = p.getLsbD k ∧ (f q).getLsbD k = q.getLsbD k)

theorem setsOrKeepsBits_id : SetsOrKeepsBits id := fun _ _ _ => .inr ⟨rfl, rfl⟩

theorem setsOrKeepsBits_setFlag (flag : Flag) (value : Bool) : SetsOrKeepsBits (setFlag · flag value) := by
  intro p q k
  simp only [setFlag_getLsbD]
  by_cases hk : k = flagBit flag <;> simp [hk]

theorem setsOrKeepsBits_setNz (v : Byte) : SetsOrKeepsBits (setNz · v) := by
  intro p q k
  simp only [setNz_getLsbD]
  by_cases hz : k = 1
  · simp [hz]
  · by_cases hn : k = 7 <;> simp [hz, hn]

/-- P's new bits depend on the instruction alone or are P's old ones (R31, R38). -/
theorem effectOf_setsOrKeepsBits (i : Instr) : SetsOrKeepsBits (effectOf i).p := by
  cases i with
  | clc => exact setsOrKeepsBits_setFlag .c false
  | sec => exact setsOrKeepsBits_setFlag .c true
  | ldaImm v => exact setsOrKeepsBits_setNz v
  | ldxImm v => exact setsOrKeepsBits_setNz v
  | ldyImm v => exact setsOrKeepsBits_setNz v
  | _ => exact setsOrKeepsBits_id

theorem State.stepEffect_setsOrKeepsBits (s : State) : SetsOrKeepsBits s.stepEffect.p := by
  unfold State.stepEffect
  split
  · exact effectOf_setsOrKeepsBits _
  · exact setsOrKeepsBits_id

/-- Settles O17: states that agree on PC, PB, WRAM and ROM have the same step effect, and one effect acts alike on any
two states. -/
theorem stepIgnoresRegistersNoInstructionReads : Obligations.StepIgnoresRegistersNoInstructionReads := by
  intro s u hpc hpb hwram hrom
  have hsame : u.stepEffect = s.stepEffect := (State.stepEffect_congr hpc hpb hwram hrom).symm
  have hu : step u = .next (s.stepEffect.apply u) := hsame ▸ step_eq_apply_stepEffect u
  have hcyc : s.cyc + s.stepEffect.cost + u.cyc = u.cyc + s.stepEffect.cost + s.cyc := by omega
  exact ⟨_, _, step_eq_apply_stepEffect s, hu, congrArg s.stepEffect.pc hpc, hpb, hwram, hrom, rfl, rfl, hcyc,
    getD_eq_or_unchanged _ _ _, getD_eq_or_unchanged _ _ _, getD_eq_or_unchanged _ _ _,
    s.stepEffect_setsOrKeepsBits s.p u.p⟩

/-! ### What each host operation writes -/

/-- A CpuStep always completes: it is the step, with no output. -/
theorem perform_cpuStep (s : State) : perform .cpuStep s = .next (s.stepEffect.apply s, .none) := by
  rw [perform, step_eq_apply_stepEffect, withOutput]

/-- A write that is not routed to WRAM does nothing (R68). -/
theorem State.memWrite_of_not_wram {s : State} {addr : Addr} (h : ∀ k, s.decodeAddr addr ≠ .wram k) (v : Byte) :
    s.memWrite addr v = s := by
  rcases s.decodeAddr_cases addr with ⟨j, -, hd⟩ | ⟨b, i, -, -, hd⟩ | hd
  · exact absurd hd (h j)
  · exact State.memWrite_other (by rw [State.isWram, hd]) v
  · exact State.memWrite_other (by rw [State.isWram, hd]) v

/-- A write changes no WRAM byte but the one its address is routed to (R68). -/
theorem State.read_memWrite_of_ne {s : State} (hwf : s.wram.wf = true) {addr : Addr} {k : Nat}
    (hk : s.decodeAddr addr ≠ .wram k) (v : Byte) : (s.memWrite addr v).wram.read k = s.wram.read k := by
  by_cases h : ∃ j, s.decodeAddr addr = .wram j
  · obtain ⟨j, hd⟩ := h
    have hkj : k ≠ j := fun he => hk (he ▸ hd)
    rw [State.memWrite_wram hd, Memory.read_write hwf, if_neg hkj]
  · rw [State.memWrite_of_not_wram (not_exists.mp h)]

/-- A press or release of an unrecognized name does nothing (R233). -/
theorem State.setButton_unknown {name : String} (h : ∀ c : Button, c.name ≠ name) (s : State) (v : Bool) :
    s.setButton name v = s := by
  rw [State.setButton, Button.ofName_none h]

/-- A press or release writes the one button of its name, and nothing for a name that is no button's (R231 to R233). -/
theorem State.setButton_writes_only_its_button (s : State) (name : String) (v : Bool) :
    s.setButton name v = { s with btn := (s.setButton name v).btn } ∧
      (∀ c : Button, c.name ≠ name → (s.setButton name v).btn.get c = s.btn.get c) ∧
      ((∀ c : Button, c.name ≠ name) → s.setButton name v = s) :=
  ⟨s.setButton_eq name v, fun c hc => by rw [State.get_setButton, if_neg hc], fun h => s.setButton_unknown h v⟩

/-- Settles O46: each operation's own frame lemma, operation by operation. -/
theorem hostOperationsWriteOnlyTheirState : Obligations.HostOperationsWriteOnlyTheirState := by
  intro op s
  cases op with
  | memWrite n v =>
    exact ⟨_, _, rfl, s.memWrite_eq _ v, fun hwf _ hk => State.read_memWrite_of_ne hwf hk v,
      fun h => State.memWrite_of_not_wram h v⟩
  | loadRom data => exact ⟨_, _, rfl, s.loadRom_frame data⟩
  | cpuReset => exact ⟨_, _, rfl, rfl⟩
  | cpuStep => exact ⟨_, _, perform_cpuStep s, rfl⟩
  | ppuStep => exact ⟨_, _, rfl, s.ppuStep_eq Config.pixelFn⟩
  | press name => exact ⟨_, _, rfl, s.setButton_writes_only_its_button name true⟩
  | release name => exact ⟨_, _, rfl, s.setButton_writes_only_its_button name false⟩
  | memRead _ | readCpu | readScanline | readFramebuffer | isPressed _ | serialize => exact ⟨_, _, rfl, rfl⟩

/-! ### The state no operation writes -/

/-- The part of the state that no host operation writes. -/
structure UnwrittenState where
  db : Byte
  sram : Memory
  vram : Memory
  cgram : Memory
  oam : Memory
  bgMode : Byte
  brightness : Byte

/-- That part of a state. -/
def State.unwritten (s : State) : UnwrittenState :=
  ⟨s.db, s.sram, s.vram, s.cgram, s.oam, s.bgMode, s.brightness⟩

/-- Each of the states an operation can leave has the same unwritten part. -/
theorem perform_keeps_unwritten {op : HostOp} {s t : State} {out : HostOutput} (h : perform op s = .next (t, out)) :
    t.unwritten = s.unwritten := by
  rcases perform_cases h with ⟨-, hstep⟩ | ⟨-, hother⟩
  · rw [step_eq_apply_stepEffect] at hstep
    cases hstep
    rfl
  · rcases hother with ⟨addr, v, rfl⟩ | ⟨data, rfl⟩ | rfl | rfl | ⟨name, v, rfl⟩ | rfl
    · rw [State.memWrite_eq]; rfl
    · rw [State.loadRom_frame]; rfl
    · rfl
    · rw [State.ppuStep_eq]; rfl
    · rw [State.setButton_eq]; rfl
    · rfl

/-- Every host operation completes (R200). -/
theorem perform_completes (op : HostOp) (s : State) : ∃ t out, perform op s = .next (t, out) := by
  obtain ⟨t, out, h, -⟩ := hostOperationsWriteOnlyTheirState op s
  exact ⟨t, out, h⟩

/-- A run whose first operation completes, and whose others complete after it. -/
theorem performAll_cons {op : HostOp} {ops : List HostOp} {s t u : State} {out : HostOutput} {outs : List HostOutput}
    (hop : perform op s = .next (t, out)) (hops : performAll ops t = .next (u, outs)) :
    performAll (op :: ops) s = .next (u, out :: outs) := by
  simp only [performAll, hop, hops]

/-- Every run of host operations completes (R200, R253). -/
theorem performAll_completes (ops : List HostOp) (s : State) : ∃ t outs, performAll ops s = .next (t, outs) := by
  induction ops generalizing s with
  | nil => exact ⟨s, [], rfl⟩
  | cons op ops ih =>
    obtain ⟨t, out, hop⟩ := perform_completes op s
    obtain ⟨u, outs, hops⟩ := ih t
    exact ⟨u, out :: outs, performAll_cons hop hops⟩

/-- Settles O47, by the induction over a run: each operation keeps the unwritten part of the state. -/
theorem stateNoOperationWritesStaysForever : Obligations.StateNoOperationWritesStaysForever := by
  intro ops s
  obtain ⟨t, outs, hrun⟩ := performAll_completes ops s
  have hkept : t.unwritten = s.unwritten :=
    performAll_keeps (P := fun u => u.unwritten = s.unwritten)
      (fun _ _ _ _ hs hop => (perform_keeps_unwritten hop).trans hs) rfl hrun
  exact ⟨t, outs, hrun, congrArg UnwrittenState.db hkept, congrArg UnwrittenState.sram hkept,
    congrArg UnwrittenState.vram hkept, congrArg UnwrittenState.cgram hkept, congrArg UnwrittenState.oam hkept,
    congrArg UnwrittenState.bgMode hkept, congrArg UnwrittenState.brightness hkept⟩

/-! ### What each host operation answers -/

/-- A button's own name asks for that button (R234). -/
@[simp] theorem State.isPressed_name (s : State) (c : Button) : s.isPressed c.name = s.btn.get c := by
  rw [State.isPressed, Button.ofName_name]

/-- A name that is no button's is answered with false (R234, D25). -/
theorem State.isPressed_unknown {name : String} (h : ∀ c : Button, c.name ≠ name) (s : State) :
    s.isPressed name = false := by
  rw [State.isPressed, Button.ofName_none h]

/-- A query of a button answers its state and changes nothing (R234). -/
theorem perform_isPressed (s : State) (name : String) :
    perform (.isPressed name) s = .next (s, .pressed (s.isPressed name)) := rfl

/-- A PpuStep answers the frame edge (R215). -/
theorem perform_ppuStep (s : State) :
    perform .ppuStep s = .next ((s.ppuStep Config.pixelFn).1, .frameComplete (decide (s.scanline = 261))) := by
  rw [perform, State.ppuStep_edge]

/-- Settles O56: the operations answer by definition, but for the two kinds of button name, CpuStep and PpuStep. -/
theorem hostOperationsAnswerTheirOutputs : Obligations.HostOperationsAnswerTheirOutputs := by
  intro s
  refine ⟨rfl, rfl, rfl, rfl, perform_isPressed s, fun c => ?ownName, fun name hname => ?otherName, fun _ => rfl, rfl,
    fun _ => rfl, fun _ => rfl, ⟨_, step_eq_apply_stepEffect s, perform_cpuStep s⟩, perform_ppuStep s⟩
  case ownName => rw [perform_isPressed, State.isPressed_name]
  case otherName => rw [perform_isPressed, State.isPressed_unknown hname]

end Sys2Proof.Machine
end

section
/-! PROOFS of the memory family (20_memory.md): the routes of the WRAM banks and of the mirror below offset 0x2000, the
byte behind a ROM route, and host integers as addresses. -/

namespace Sys2Proof.Machine

/-! ### Host integers as addresses -/

/-- An address given as a host integer is that address. -/
@[simp] theorem hostAddr_toNat (addr : Addr) : hostAddr addr.toNat = addr := by
  rw [hostAddr, BitVec.ofNat_toNat, BitVec.setWidth_eq]

/-- A host integer and its remainder modulo 2^24 are the same address (R60, D30, log 17). -/
@[simp] theorem hostAddr_mod (n : Nat) : hostAddr (n % 0x1000000) = hostAddr n :=
  BitVec.eq_of_toNat_eq (Nat.mod_mod n 0x1000000)

/-- A MemRead answers the byte at the host integer's address and leaves the state (R67). -/
theorem perform_memRead (s : State) (n : Nat) :
    perform (.memRead n) s = .next (s, .byte (s.memRead (hostAddr n))) := rfl

/-- A MemWrite is the write at the host integer's address (R68). -/
theorem perform_memWrite (s : State) (n : Nat) (v : Byte) :
    perform (.memWrite n v) s = .next (s.memWrite (hostAddr n) v, .none) := rfl

/-! ### The routes to WRAM -/

/-- The banks of WRAM route every offset there, whatever the rules after the first one say (R61, R66). -/
theorem State.decodeAddr_of_wram_bank (s : State) {bank : Byte} (h : bank = 0x7E ∨ bank = 0x7F) (offset : Word) :
    s.decodeAddr (mkAddr bank offset) = .wram ((bank.toNat - 0x7E) * 0x10000 + offset.toNat) := by
  have hbank : bank.toNat = 0x7E ∨ bank.toNat = 0x7F := h.imp (congrArg BitVec.toNat) (congrArg BitVec.toNat)
  simp only [State.decodeAddr, bankOf_mkAddr, offsetOf_mkAddr, if_pos hbank]

/-- Bank 0x7E is the first half of WRAM (R61). -/
theorem State.decodeAddr_bank_7E (s : State) (offset : Word) :
    s.decodeAddr (mkAddr 0x7E offset) = .wram offset.toNat := by
  rw [s.decodeAddr_of_wram_bank (.inl rfl), show (0x7E : Byte).toNat - 0x7E = 0 from rfl, Nat.zero_mul, Nat.zero_add]

/-- Bank 0x7F is the second half of WRAM (R61). -/
theorem State.decodeAddr_bank_7F (s : State) (offset : Word) :
    s.decodeAddr (mkAddr 0x7F offset) = .wram (0x10000 + offset.toNat) := by
  rw [s.decodeAddr_of_wram_bank (.inr rfl), show (0x7F : Byte).toNat - 0x7E = 1 from rfl, Nat.one_mul]

/-- Below offset 0x2000 every bank but 0x7F mirrors the start of WRAM: bank 0x7E by rule 1, the others by rule 2 (R61,
R62, C10). -/
theorem State.decodeAddr_mirror (s : State) {bank : Byte} (hbank : bank ≠ 0x7F) {offset : Word}
    (hoffset : offset.toNat < 0x2000) : s.decodeAddr (mkAddr bank offset) = .wram offset.toNat := by
  by_cases h7E : bank = 0x7E
  · rw [h7E, s.decodeAddr_bank_7E]
  · have hrule1 : ¬ (bank.toNat = 0x7E ∨ bank.toNat = 0x7F) :=
      not_or.mpr ⟨fun h => h7E (BitVec.eq_of_toNat_eq h), fun h => hbank (BitVec.eq_of_toNat_eq h)⟩
    simp only [State.decodeAddr, bankOf_mkAddr, offsetOf_mkAddr, if_neg hrule1, if_pos hoffset]

/-! ### The byte behind a ROM route -/

/-- A ROM route leads to an existing byte of an existing bank, and a read gives that byte (R63, R64, R67). -/
theorem State.memRead_rom_bank {s : State} {addr : Addr} {b i : Nat} (h : s.decodeAddr addr = .rom b i) :
    ∃ bank, s.rom[b]? = some bank ∧ i < bank.len ∧ s.memRead addr = bank.cells.read i := by
  rcases s.decodeAddr_cases addr with ⟨j, -, hd⟩ | ⟨b', i', hb, hi, hd⟩ | hd
  · cases h.symm.trans hd
  · cases h.symm.trans hd
    have hbank : s.rom[b]? = some s.rom[b] := List.getElem?_eq_getElem hb
    rw [State.romLen, hbank] at hi
    refine ⟨s.rom[b], hbank, hi, ?_⟩
    rw [State.memRead_rom h, State.romByte, hbank]
  · cases h.symm.trans hd

/-! ### The obligations -/

/-- Settles O28: a write by its address's route, where canonical WRAM makes the store one byte. -/
theorem writesStoreOneWramByteOrNothing : Obligations.WritesStoreOneWramByteOrNothing := by
  intro s addr v hwf
  refine ⟨fun j hd => ⟨s.memWrite_eq addr v, fun k => ?storedByte⟩, fun h => State.memWrite_of_not_wram h v, ?hostWrite⟩
  case storedByte => rw [State.memWrite_wram hd, Memory.read_write hwf]
  case hostWrite => rw [perform_memWrite, hostAddr_toNat]

/-- Settles O24: the routes of the two banks of WRAM, and the store at each. -/
theorem wramBanksRouteToWram : Obligations.WramBanksRouteToWram := by
  intro s offset v
  have h7E := s.decodeAddr_bank_7E offset
  have h7F := s.decodeAddr_bank_7F offset
  exact ⟨h7E, h7F, State.memWrite_wram h7E v, State.memWrite_wram h7F v⟩

/-- Settles O25: the mirror, and bank 0x7F, which rule 1 takes first. -/
theorem mirrorInEveryBankButOne : Obligations.MirrorInEveryBankButOne := by
  intro s bank offset hoffset
  constructor
  · intro hbank
    have hd := s.decodeAddr_mirror hbank hoffset
    exact ⟨hd, State.memRead_wram hd, State.memWrite_wram hd⟩
  · rintro rfl
    have hd := s.decodeAddr_bank_7F offset
    exact ⟨hd, State.memRead_wram hd, State.memWrite_wram hd⟩

/-- Settles O27, route by route; the host operation is a read at the integer's address. -/
theorem readsGiveTheRoutedByte : Obligations.ReadsGiveTheRoutedByte :=
  ⟨fun _ _ => ⟨fun _ hd => State.memRead_wram hd, fun _ _ hd => State.memRead_rom_bank hd, State.memRead_unmapped⟩,
    perform_memRead⟩

/-- Settles O55: both memory operations see a host integer only through its address, which is that of its remainder. -/
theorem hostAddressesLoseBitsAbove23 : Obligations.HostAddressesLoseBitsAbove23 := by
  intro s n v
  refine ⟨BitVec.toNat_ofNat n 24, perform_memRead s n, perform_memWrite s n v, ?sameRead, ?sameWrite⟩
  case sameRead => rw [perform_memRead, perform_memRead, hostAddr_mod]
  case sameWrite => rw [perform_memWrite, perform_memWrite, hostAddr_mod]

end Sys2Proof.Machine
end

section
/-! PROOFS of the dispatch family (40_dispatch.md): the frame and the cost of every step's effect, CYC along a run of
host operations, and when a ROM is loaded. -/

namespace Sys2Proof.Machine

/-! ### The bits of P and the cost of a step's effect -/

/-- No instruction writes the flags between Z and N: carry is bit 0, a load writes bits 1 and 7 (D4, D6). -/
theorem effectOf_keeps_bits_2_to_6 (i : Instr) (p : Byte) {k : Nat} (h2 : 2 ≤ k) (h6 : k ≤ 6) :
    ((effectOf i).p p).getLsbD k = p.getLsbD k := by
  have hcarry : k ≠ flagBit .c := by simp only [flagBit]; omega
  cases i with
  | clc | sec => exact (setFlag_getLsbD p .c _ k).trans (if_neg hcarry)
  | ldaImm v | ldxImm v | ldyImm v =>
    exact (setNz_getLsbD p v k).trans ((if_neg (by omega)).trans (if_neg (by omega)))
  | _ => rfl

theorem State.stepEffect_keeps_bits_2_to_6 (s : State) (p : Byte) {k : Nat} (h2 : 2 ≤ k) (h6 : k ≤ 6) :
    (s.stepEffect.p p).getLsbD k = p.getLsbD k := by
  unfold State.stepEffect
  split
  · exact effectOf_keeps_bits_2_to_6 _ p h2 h6
  · rfl

/-- No instruction costs more than JMP abs (R121). -/
theorem effectOf_cost_le (i : Instr) : (effectOf i).cost ≤ 3 := by
  cases i with
  | jmpAbs _ => exact Nat.le_refl 3
  | _ => exact Nat.le_succ 2

theorem State.stepEffect_cost_le (s : State) : s.stepEffect.cost ≤ 3 := by
  unfold State.stepEffect
  split
  · exact effectOf_cost_le _
  · exact Nat.zero_le 3

/-- Settles O13: a step is its effect applied, and an effect writes six fields, of P no bit from 2 to 6. -/
theorem stepAlwaysCompletesInsideItsFrame : Obligations.StepAlwaysCompletesInsideItsFrame := by
  intro s
  exact ⟨_, step_eq_apply_stepEffect s, rfl, fun _ h2 h6 => s.stepEffect_keeps_bits_2_to_6 s.p h2 h6,
    Nat.le_add_right s.cyc s.stepEffect.cost⟩

/-! ### CYC along a run of host operations -/

/-- Every host operation but CpuStep leaves CYC, CpuReset included (R250, D7). -/
theorem perform_keeps_cyc {op : HostOp} (hop : op ≠ .cpuStep) {s t : State} {out : HostOutput}
    (h : perform op s = .next (t, out)) : t.cyc = s.cyc := by
  rcases perform_cases h with ⟨hstep, -⟩ | ⟨-, hother⟩
  · exact absurd hstep hop
  · rcases hother with ⟨addr, v, rfl⟩ | ⟨data, rfl⟩ | rfl | rfl | ⟨name, v, rfl⟩ | rfl
    · rw [State.memWrite_eq]
    · rw [State.loadRom_frame]
    · rfl
    · rw [State.ppuStep_eq]
    · rw [State.setButton_eq]
    · rfl

/-- One host operation adds at most 3 to CYC, and nothing if it is no CpuStep (R121, R250). -/
theorem perform_cyc_bounds {op : HostOp} {s t : State} {out : HostOutput} (h : perform op s = .next (t, out)) :
    s.cyc ≤ t.cyc ∧ t.cyc ≤ s.cyc + 3 * [op].count .cpuStep := by
  by_cases hop : op = .cpuStep
  · subst hop
    rw [perform_cpuStep] at h
    cases h
    exact ⟨Nat.le_add_right _ _, Nat.add_le_add_left s.stepEffect_cost_le _⟩
  · rw [perform_keeps_cyc hop h]
    exact ⟨Nat.le_refl _, Nat.le_add_right _ _⟩

/-- Settles O48, by induction over the run: the CpuSteps of the first operation and of the rest add up. -/
theorem cycChangesOnlyByCpuStep : Obligations.CycChangesOnlyByCpuStep := by
  intro ops s
  induction ops generalizing s with
  | nil => exact ⟨s, [], rfl, Nat.le_refl _, Nat.le_refl _⟩
  | cons op ops ih =>
    obtain ⟨t, out, hop⟩ := perform_completes op s
    obtain ⟨u, outs, hops, hge, hle⟩ := ih t
    obtain ⟨hge', hle'⟩ := perform_cyc_bounds hop
    have hcount : (op :: ops).count .cpuStep = [op].count .cpuStep + ops.count .cpuStep :=
      List.count_append (l₁ := [op])
    exact ⟨u, out :: outs, performAll_cons hop hops, by omega, by omega⟩

/-! ### The guard of CpuStep -/

/-- A ROM is loaded exactly when it has at least one bank (R45). -/
theorem State.romLoaded_iff (s : State) : s.romLoaded = true ↔ 1 ≤ s.rom.length := by
  simp [State.romLoaded, Nat.one_le_iff_ne_zero]

/-- Settles O11: the guard, which tests the ROM and not the fetch address. -/
theorem stepWithoutRomChangesNothing : Obligations.StepWithoutRomChangesNothing :=
  fun s => ⟨step_of_not_romLoaded, s.romLoaded_iff⟩

end Sys2Proof.Machine
end

section
/-! PROOFS of the flags and NOP family (41_flags_and_nop.md): the step of an implied instruction, and NOP's. -/

namespace Sys2Proof.Machine

/-- With a ROM loaded and the opcode byte of an implied instruction at PC, the step runs that instruction (R105, R123). -/
theorem step_of_imp {s : State} {op : Byte} {i : Instr} (hrom : s.romLoaded = true)
    (hop : s.memRead (mkAddr s.pb s.pc) = op) (hentry : entryOf op = .imp i) : step s = exec i s := by
  rw [step_of_romLoaded hrom, State.fetchInstr_imp hop hentry]

/-- NOP's effect is that of its fetch and its cost (R140). -/
theorem exec_nop (s : State) : exec .nop s = .next { s with pc := s.pc + 1, cyc := s.cyc + 2 } :=
  exec_eq_apply_effectOf .nop s

/-- Settles O1: a step at the byte 0xEA runs NOP; an unmapped address gives the byte 0x00. -/
theorem nopChangesOnlyPcAndCyc : Obligations.NopChangesOnlyPcAndCyc := by
  intro s
  refine ⟨exec_nop s, ?step, ?unmapped, rfl⟩
  case step =>
    intro hrom hop
    rw [step_of_imp hrom hop entryOf_nop, exec_nop]
  case unmapped =>
    intro hunmapped
    rw [State.memRead_unmapped hunmapped]
    decide

end Sys2Proof.Machine
end

section
/-! PROOFS of the jump family (43_jump.md): the step of an instruction with a 16-bit operand, and JMP's. -/

namespace Sys2Proof.Machine

/-- With a ROM loaded and the opcode byte of an instruction with a 16-bit operand at PC, the step runs that instruction
on the next two bytes of the bank, low first (R105, R123). -/
theorem step_of_abs16 {s : State} {op : Byte} {mk : Word → Instr} (hrom : s.romLoaded = true)
    (hop : s.memRead (mkAddr s.pb s.pc) = op) (hentry : entryOf op = .abs16 mk) :
    step s = exec (mk (joinBytes (s.memRead (mkAddr s.pb (s.pc + 1))) (s.memRead (mkAddr s.pb (s.pc + 2))))) s := by
  rw [step_of_romLoaded hrom, State.fetchInstr_abs16 hop hentry]

/-- JMP's effect writes PC without reading it, so the fetch before it leaves no trace but the cost (R160). -/
theorem exec_jmpAbs (s : State) (target : Word) :
    exec (.jmpAbs target) s = .next { s with pc := target, cyc := s.cyc + 3 } :=
  exec_eq_apply_effectOf (.jmpAbs target) s

/-- The encoding of a jump to the target two bytes make is the opcode byte and those two bytes, low first (R105). -/
theorem encode_jmpAbs_joinBytes (lo hi : Byte) : encode (.jmpAbs (joinBytes lo hi)) = [0x4C, lo, hi] :=
  calc encode (.jmpAbs (joinBytes lo hi))
    _ = [0x4C, (joinBytes lo hi).extractLsb' 0 8, (joinBytes lo hi).extractLsb' 8 8] := rfl
    _ = [0x4C, lo, hi] := by rw [joinBytes_lo, joinBytes_hi]

/-- Settles O7: a step at the byte 0x4C runs JMP on the word its two operand bytes join to. -/
theorem jmpAbsSetsPcInTheBank : Obligations.JmpAbsSetsPcInTheBank := by
  refine ⟨exec_jmpAbs, ?step, ?encoding⟩
  case step =>
    intro s hrom hop
    rw [step_of_abs16 hrom hop entryOf_jmpAbs, exec_jmpAbs, joinBytes_eq_ofNat]
  case encoding =>
    intro lo hi
    rw [← joinBytes_eq_ofNat, encode_jmpAbs_joinBytes]

end Sys2Proof.Machine
end

section
/-! PROOFS of the exceptions and host interface family (60_exceptions.md): the scanline along a run of PpuSteps, a
press or release by a button's own name, and the outputs of a run of host operations. -/

namespace Sys2Proof.Machine

/-! ### The scanline along a run of PpuSteps -/

/-- A PpuStep advances the scanline modulo 262 (R211). -/
@[simp] theorem State.ppuStep_scanline (f : PixelFn) (s : State) :
    (s.ppuStep f).1.scanline = (s.scanline + 1) % 262 := by
  rw [State.ppuStep_eq]
  rfl

/-- A run of PpuSteps goes on from the state its first one leaves. -/
@[simp] theorem State.ppuSteps_succ_state (f : PixelFn) (n : Nat) (s : State) :
    (State.ppuSteps f (n + 1) s).1 = (State.ppuSteps f n (s.ppuStep f).1).1 := rfl

/-- The scanline counts the PpuSteps modulo 262 (R214). -/
theorem State.ppuSteps_scanline (f : PixelFn) (n : Nat) {s : State} (h : s.scanline < 262) :
    (State.ppuSteps f n s).1.scanline = (s.scanline + n) % 262 := by
  induction n generalizing s with
  | zero => exact (Nat.mod_eq_of_lt h).symm
  | succ n ih =>
    have hone : (s.ppuStep f).1.scanline < 262 := by
      rw [State.ppuStep_scanline]
      exact Nat.mod_lt _ (by decide)
    calc (State.ppuSteps f (n + 1) s).1.scanline
      _ = ((s.ppuStep f).1.scanline + n) % 262 := by rw [State.ppuSteps_succ_state, ih hone]
      _ = (s.scanline + (n + 1)) % 262 := by rw [State.ppuStep_scanline, Nat.mod_add_mod, Nat.add_assoc, Nat.add_comm 1]

/-- Settles O37: the count modulo 262 is below 262, and 262 steps add nothing to it. -/
theorem scanlineReturnsAfter262Steps : Obligations.ScanlineReturnsAfter262Steps := by
  intro f s h
  refine ⟨fun n => ⟨State.ppuSteps_scanline f n h, ?bound⟩, ?fullFrame⟩
  case bound =>
    rw [State.ppuSteps_scanline f n h]
    exact Nat.mod_lt _ (by decide)
  case fullFrame => rw [State.ppuSteps_scanline f 262 h, Nat.add_mod_right, Nat.mod_eq_of_lt h]

/-! ### A press or release by a button's own name -/

/-- No two buttons share a name (R49). -/
@[simp] theorem Button.name_inj {btn c : Button} : btn.name = c.name ↔ btn = c := by
  refine ⟨fun h => ?_, congrArg Button.name⟩
  have hsome : some btn = some c := by rw [← Button.ofName_name btn, h, Button.ofName_name]
  exact Option.some.inj hsome

/-- A press by a button's own name presses that button, and no other (R231). -/
@[simp] theorem State.get_press_name (s : State) (btn c : Button) :
    (s.press btn.name).btn.get c = if c = btn then true else s.btn.get c := by
  simp only [State.press, State.get_setButton, Button.name_inj]

/-- A release by a button's own name releases that button, and no other (R232). -/
@[simp] theorem State.get_release_name (s : State) (btn c : Button) :
    (s.release btn.name).btn.get c = if c = btn then false else s.btn.get c := by
  simp only [State.release, State.get_setButton, Button.name_inj]

/-- A press of one button and then a release of another leave the first pressed, the second released, and every other
as it was (R231, R232). -/
theorem State.get_press_release {btn btn' : Button} (hne : btn ≠ btn') (s : State) :
    ((s.press btn.name).release btn'.name).btn.get btn = true ∧
      ((s.press btn.name).release btn'.name).btn.get btn' = false ∧
      ∀ c, c ≠ btn → c ≠ btn' → ((s.press btn.name).release btn'.name).btn.get c = s.btn.get c := by
  refine ⟨?pressed, ?released, fun c hc hc' => ?other⟩
  case pressed => rw [State.get_release_name, if_neg hne, State.get_press_name, if_pos rfl]
  case released => rw [State.get_release_name, if_pos rfl]
  case other => rw [State.get_release_name, if_neg hc', State.get_press_name, if_neg hc]

/-- Settles O41: a release by a button's own name, by a name that is no button's, and after a press of another. -/
theorem releaseClearsTheNamedButton : Obligations.ReleaseClearsTheNamedButton := by
  intro s
  refine ⟨fun btn => ⟨?named, fun c hc => ?other, s.setButton_eq btn.name false⟩,
    fun _ hname => s.setButton_unknown hname false, s.get_press_release (btn := .a) (btn' := .b) (by decide)⟩
  case named => rw [State.get_release_name, if_pos rfl]
  case other => rw [State.get_release_name, if_neg hc]

/-! ### The outputs of a run of host operations -/

/-- A run that completes answers one output for each operation (R250). -/
theorem performAll_outputs_length {ops : List HostOp} {s u : State} {outs : List HostOutput}
    (h : performAll ops s = .next (u, outs)) : outs.length = ops.length := by
  induction ops generalizing s u outs with
  | nil =>
    cases h
    rfl
  | cons op ops ih =>
    obtain ⟨t, out, hop⟩ := perform_completes op s
    obtain ⟨v, rest, hops⟩ := performAll_completes ops t
    cases (performAll_cons hop hops).symm.trans h
    exact congrArg Nat.succ (ih hops)

/-- Settles O45: a run completes operation by operation; an instruction and a step are each one effect applied. -/
theorem everyOperationCompletes : Obligations.EveryOperationCompletes := by
  refine ⟨fun ops s => ?run, fun i s => ⟨_, exec_eq_apply_effectOf i s⟩, fun s => ⟨_, step_eq_apply_stepEffect s⟩⟩
  case run =>
    obtain ⟨t, outs, hrun⟩ := performAll_completes ops s
    exact ⟨t, outs, hrun, performAll_outputs_length hrun⟩

end Sys2Proof.Machine
end

section
/-! PROOFS of the reset family (70_reset_and_hazards.md): the vector CpuReset loads, and a second CpuReset. -/

namespace Sys2Proof.Machine

/-- CpuReset loads PC with the little-endian vector (R260). -/
theorem State.cpuReset_pc_toNat (s : State) :
    s.cpuReset.pc.toNat = (s.memRead 0x00FFFC).toNat + 256 * (s.memRead 0x00FFFD).toNat := by
  rw [State.cpuReset_pc, joinBytes_toNat]

/-- The first CpuReset has set PB, SP, P and E to constants; the second reads the same vector, since CpuReset writes no
memory (R261). -/
@[simp] theorem State.cpuReset_cpuReset (s : State) : s.cpuReset.cpuReset = s.cpuReset :=
  calc s.cpuReset.cpuReset
    _ = { s.cpuReset with pc := joinBytes (s.cpuReset.memRead 0x00FFFC) (s.cpuReset.memRead 0x00FFFD) } := rfl
    _ = { s.cpuReset with pc := joinBytes (s.memRead 0x00FFFC) (s.memRead 0x00FFFD) } := by
      rw [State.cpuReset_memRead, State.cpuReset_memRead]
    _ = s.cpuReset := rfl

/-- Settles O33: the constants CpuReset writes, the vector in PC, and the second CpuReset. -/
theorem cpuResetIsIdempotentInEffect : Obligations.CpuResetIsIdempotentInEffect :=
  fun s => ⟨s.cpuReset_sp, s.cpuReset_p, s.cpuReset_e, s.cpuReset_pb, s.cpuReset_pc_toNat, s.cpuReset_cpuReset⟩

end Sys2Proof.Machine
end

section
/-! PROOFS of the encoding family (30_encoding.md): the encoding behind each entry of the opcode map, the round trip
between bytes and instructions, the length an opcode gives, and the assembler's lines. -/

namespace Sys2Proof.Machine

open Sys2Proof.Laws

/-! ### The bytes behind an entry of the opcode map -/

/-- The entry of an opcode byte is one the byte may have (R105). -/
theorem standsFor_of_entryOf {op : Byte} {entry : OpcodeEntry} (hentry : entryOf op = entry) : entry.standsFor op :=
  hentry ▸ entryOf_standsFor op

/-- A default entry's instruction is its opcode byte alone (R100, R107). -/
theorem encode_of_dflt {op : Byte} {i : Instr} (hentry : entryOf op = .dflt i) : encode i = [op] := by
  obtain ⟨hop, -, hnone⟩ := standsFor_of_entryOf hentry
  rw [encode, hop, hnone]

/-- An implied entry's instruction is its opcode byte alone (R100). -/
theorem encode_of_imp {op : Byte} {i : Instr} (hentry : entryOf op = .imp i) : encode i = [op] := by
  rcases standsFor_of_entryOf hentry with ⟨rfl, rfl⟩ | ⟨rfl, rfl⟩ | ⟨rfl, rfl⟩
  · rfl
  · rfl
  · rfl

/-- The instruction an immediate entry makes of a byte is the opcode byte and that byte (R102). -/
theorem encode_of_imm8 {op : Byte} {mk : Byte → Instr} (hentry : entryOf op = .imm8 mk) (v : Byte) :
    encode (mk v) = [op, v] := by
  rcases standsFor_of_entryOf hentry with ⟨rfl, rfl⟩ | ⟨rfl, rfl⟩ | ⟨rfl, rfl⟩
  · rfl
  · rfl
  · rfl

/-- The instruction an absolute entry makes of two bytes is the opcode byte and those two, low first (R103). -/
theorem encode_of_abs16 {op : Byte} {mk : Word → Instr} (hentry : entryOf op = .abs16 mk) (lo hi : Byte) :
    encode (mk (joinBytes lo hi)) = [op, lo, hi] := by
  obtain ⟨rfl, rfl⟩ := standsFor_of_entryOf hentry
  exact encode_jmpAbs_joinBytes lo hi

/-- The encoding of a decoded instruction is the bytes it was decoded from, as many as its opcode says (R106). -/
theorem encode_decodeFrom (byteAt : Nat → Byte) :
    encode (decodeFrom byteAt) = (List.range (instrLength (byteAt 0))).map byteAt := by
  unfold decodeFrom instrLength
  cases hentry : entryOf (byteAt 0) with
  | dflt i => exact encode_of_dflt hentry
  | imp i => exact encode_of_imp hentry
  | imm8 mk => exact encode_of_imm8 hentry (byteAt 1)
  | abs16 mk => exact encode_of_abs16 hentry (byteAt 1) (byteAt 2)

/-- Decoding keeps the opcode byte (R101). -/
@[simp] theorem decodeFrom_opcode (byteAt : Nat → Byte) : (decodeFrom byteAt).opcode = byteAt 0 := by
  have hlen : 0 < instrLength (byteAt 0) := (instrLength_bounds _).1
  have hhead : (encode (decodeFrom byteAt)).head? = some (byteAt 0) := by
    rw [encode_decodeFrom, List.head?_map, List.head?_range, if_neg (Nat.ne_of_gt hlen), Option.map_some]
  exact Option.some.inj hhead

/-! ### The round trip between bytes and instructions -/

/-- A list of bytes is its first ones, read one by one, and the rest. -/
theorem map_getD_range_append_drop {bytes : List Byte} {n : Nat} (h : n ≤ bytes.length) :
    (List.range n).map (fun k => bytes.getD k 0) ++ bytes.drop n = bytes := by
  have htake : (List.range n).map (fun k => bytes.getD k 0) = bytes.take n := by
    refine List.ext_getElem (by simp [h]) fun k hk _ => ?_
    have hk' : k < bytes.length := by simp at hk; omega
    simp [hk']
  rw [htake, List.take_append_drop]

/-- Decoding answers an instruction and a rest exactly when the bytes are its encoding and that rest (R100). -/
theorem decode_eq_ok_iff {bytes rest : List Byte} {i : Instr} :
    decode bytes = .ok (i, rest) ↔ bytes = encode i ++ rest := by
  constructor
  · intro h
    match bytes with
    | [] => exact absurd h nofun
    | op :: tail =>
      rcases Nat.lt_or_ge (tail.length + 1) (instrLength op) with hshort | hlen
      · exact absurd ((decode_truncated hshort).symm.trans h) nofun
      · cases (decode_eq hlen).symm.trans h
        rw [encode_decodeFrom]
        exact (map_getD_range_append_drop hlen).symm
  · rintro rfl
    exact decode_encode i rest

/-- Decoding n + 1 instructions is decoding one, and n from what it leaves. -/
theorem decodeN_succ_eq_ok_iff {n : Nat} {bytes rest : List Byte} {is : List Instr} :
    decodeN (n + 1) bytes = .ok (is, rest) ↔
      ∃ i is' mid, decode bytes = .ok (i, mid) ∧ decodeN n mid = .ok (is', rest) ∧ is = i :: is' := by
  rw [decodeN]
  cases hfirst : decode bytes with
  | error e => simp
  | ok first =>
    obtain ⟨i, mid⟩ := first
    cases hothers : decodeN n mid with
    | error e => simp [hothers]
    | ok others => simp [hothers, Prod.ext_iff, and_comm, eq_comm]

/-- Settles O20, by induction on the number of instructions: one is decoded exactly from its encoding. -/
theorem programBytesRoundTrip : Obligations.ProgramBytesRoundTrip := by
  intro n
  induction n with
  | zero =>
    intro bytes rest is
    constructor
    · rintro ⟨⟩
      exact ⟨rfl, rfl⟩
    · rintro ⟨hlen, rfl⟩
      rw [List.length_eq_zero_iff.mp hlen]
      rfl
  | succ n ih =>
    intro bytes rest is
    rw [decodeN_succ_eq_ok_iff]
    constructor
    · rintro ⟨i, is', mid, hfirst, hothers, rfl⟩
      obtain ⟨hlen, rfl⟩ := (ih _ _ _).mp hothers
      rw [decode_eq_ok_iff] at hfirst
      exact ⟨congrArg Nat.succ hlen, by rw [hfirst, List.flatMap_cons, List.append_assoc]⟩
    · rintro ⟨hlen, rfl⟩
      match is with
      | i :: is' =>
        refine ⟨i, is', is'.flatMap encode ++ rest, ?_, (ih _ _ _).mpr ⟨Nat.succ.inj hlen, rfl⟩, rfl⟩
        rw [decode_eq_ok_iff, List.flatMap_cons, List.append_assoc]

/-! ### The length an opcode gives -/

/-- The opcodes of two and three bytes, by their values (R106). -/
theorem instrLength_eq (op : Byte) :
    instrLength op = if op = 0x4C then 3 else if op ∈ [0xA9, 0xA2, 0xA0] then 2 else 1 := by
  by_cases hreg : op ∈ registeredOpcodes
  · simp only [registeredOpcodes, List.mem_cons, List.not_mem_nil, or_false] at hreg
    rcases hreg with rfl | rfl | rfl | rfl | rfl | rfl | rfl <;> rfl
  · obtain ⟨i, hentry, -⟩ := entryOf_unregistered hreg
    have hjmp : op ≠ 0x4C := fun h => hreg (h ▸ by decide)
    have hload : op ∉ [0xA9, 0xA2, 0xA0] := fun h => hreg ((show [0xA9, 0xA2, 0xA0] ⊆ registeredOpcodes by decide) h)
    rw [instrLength, hentry, if_neg hjmp, if_neg hload, OpcodeEntry.length]

/-- Settles O21: both answers of the decoder, with the length of the opcode written out. -/
theorem opcodeAloneGivesTheLength : Obligations.OpcodeAloneGivesTheLength := by
  intro op bytes
  rw [← instrLength_eq]
  intro n
  constructor
  · intro hlen
    obtain ⟨m, hm⟩ : ∃ m, n = m + 1 := Nat.exists_eq_add_one.mpr (instrLength_bounds op).1
    have hdrop : (op :: bytes).drop n = bytes.drop (n - 1) := by rw [hm]; rfl
    exact ⟨_, hdrop ▸ decode_eq hlen, decodeFrom_opcode _⟩
  · exact decode_truncated

/-- Settles O22, byte by byte. -/
theorem writtenOutBytesDecode : Obligations.WrittenOutBytesDecode :=
  ⟨rfl, rfl, rfl, rfl, rfl, rfl, rfl, rfl⟩

/-! ### The assembler's lines -/

/-- The two bytes the assembler writes of a jump's operand join to the operand (R103, R109). -/
theorem joinBytes_ofNat (a : Nat) : joinBytes (BitVec.ofNat 8 a) (BitVec.ofNat 8 (a / 256)) = BitVec.ofNat 16 a := by
  apply BitVec.eq_of_toNat_eq
  rw [joinBytes_toNat, BitVec.toNat_ofNat, BitVec.toNat_ofNat, BitVec.toNat_ofNat]
  omega

/-- The .byte lines of a list of bytes assemble to it (R109). -/
theorem assemble_byte_lines (bytes : List Byte) : assemble (bytes.map (fun b => .byte b.toNat)) = bytes := by
  induction bytes with
  | nil => rfl
  | cons b bytes ih =>
    calc assemble ((b :: bytes).map (fun b => .byte b.toNat))
      _ = BitVec.ofNat 8 b.toNat :: assemble (bytes.map (fun b => .byte b.toNat)) := rfl
      _ = b :: bytes := by rw [ih, BitVec.ofNat_toNat, BitVec.setWidth_eq]

/-- Settles O23: the implied lines by evaluation, the others by their format; a jump's two bytes join to its operand. -/
theorem assembledLinesDecode : Obligations.AssembledLinesDecode := by
  refine ⟨rfl, rfl, rfl, fun _ _ => decode_imm8 entryOf_ldaImm [], fun _ _ => decode_imm8 entryOf_ldxImm [],
    fun _ _ => decode_imm8 entryOf_ldyImm [], fun a _ => ?jump, assemble_byte_lines⟩
  case jump => rw [← joinBytes_ofNat]; exact decode_abs16 entryOf_jmpAbs []

end Sys2Proof.Machine
end

section
/-! PROOFS of the memory map (20_memory.md): the ten rows of the address map, reads after a write, and what a read can
see. -/

namespace Sys2Proof.Machine

/-! ### The rows of the address map -/

/-- A bank that is not one of the two of WRAM. -/
theorem not_wram_bank {bank : Byte} (hbank : bank.toNat < 0x7E ∨ 0x7F < bank.toNat) :
    ¬ (bank.toNat = 0x7E ∨ bank.toNat = 0x7F) := by
  omega

/-- Between the mirror and offset 0x8000 no bank but those of WRAM has memory (R66). -/
theorem State.decodeAddr_gap (s : State) {bank : Byte} (hbank : bank.toNat < 0x7E ∨ 0x7F < bank.toNat) {offset : Word}
    (hlow : 0x2000 ≤ offset.toNat) (hhigh : offset.toNat ≤ 0x7FFF) : s.decodeAddr (mkAddr bank offset) = .unmapped := by
  simp only [State.decodeAddr, bankOf_mkAddr, offsetOf_mkAddr, if_neg (not_wram_bank hbank),
    if_neg (Nat.not_lt_of_le hlow), if_neg (not_and_of_not_right _ (Nat.not_le_of_lt (Nat.lt_succ_of_le hhigh)))]

/-- Banks 0x40 to 0x7D have no ROM: past the mirror they are unmapped (R66). -/
theorem State.decodeAddr_no_rom (s : State) {bank : Byte} (hlow : 0x40 ≤ bank.toNat) (hhigh : bank.toNat ≤ 0x7D)
    {offset : Word} (hoffset : 0x2000 ≤ offset.toNat) : s.decodeAddr (mkAddr bank offset) = .unmapped := by
  simp only [State.decodeAddr, bankOf_mkAddr, offsetOf_mkAddr, if_neg (not_wram_bank (.inl (Nat.lt_succ_of_le hhigh))),
    if_neg (Nat.not_lt_of_le hoffset), if_neg (not_and_of_not_left _ (show ¬ 0x80 ≤ bank.toNat by omega)),
    if_neg (not_and_of_not_left _ (Nat.not_lt_of_le hlow))]

/-- Banks 0x00 to 0x3F show the ROM's banks in their upper half (R64). -/
theorem State.decodeAddr_lower_rom (s : State) {bank : Byte} (hbank : bank.toNat ≤ 0x3F) {offset : Word}
    (hoffset : 0x8000 ≤ offset.toNat) :
    s.decodeAddr (mkAddr bank offset) = s.romTarget bank.toNat (offset.toNat - 0x8000) := by
  simp only [State.decodeAddr, bankOf_mkAddr, offsetOf_mkAddr,
    if_neg (not_wram_bank (.inl (show bank.toNat < 0x7E by omega))),
    if_neg (show ¬ offset.toNat < 0x2000 by omega), if_neg (not_and_of_not_left _ (show ¬ 0x80 ≤ bank.toNat by omega)),
    if_pos (And.intro (Nat.lt_succ_of_le hbank) hoffset)]

/-- Banks 0x80 to 0xFF show the ROM's banks in their upper half (R63). -/
theorem State.decodeAddr_upper_rom (s : State) {bank : Byte} (hbank : 0x80 ≤ bank.toNat) {offset : Word}
    (hoffset : 0x8000 ≤ offset.toNat) :
    s.decodeAddr (mkAddr bank offset) = s.romTarget (bank.toNat - 0x80) (offset.toNat - 0x8000) := by
  simp only [State.decodeAddr, bankOf_mkAddr, offsetOf_mkAddr, if_neg (not_wram_bank (.inr hbank)),
    if_neg (show ¬ offset.toNat < 0x2000 by omega), if_pos (And.intro hbank hoffset)]

/-- The mirror, for a bank told apart from 0x7F by its number. -/
theorem State.decodeAddr_mirror_of_toNat_ne (s : State) {bank : Byte} (hbank : bank.toNat ≠ 0x7F) {offset : Word}
    (hoffset : offset.toNat ≤ 0x1FFF) : s.decodeAddr (mkAddr bank offset) = .wram offset.toNat :=
  s.decodeAddr_mirror (fun h => hbank (congrArg BitVec.toNat h)) (Nat.lt_succ_of_le hoffset)

/-- Settles O26: row by row, by the rule of the decoder that reaches it first. -/
theorem addressMapOfTheWholeSpace : Obligations.AddressMapOfTheWholeSpace := by
  intro s bank offset b o romOr
  refine ⟨fun hb ho => s.decodeAddr_mirror_of_toNat_ne (by omega) ho,
    fun hb hlow hhigh => s.decodeAddr_gap (.inl (by omega)) hlow hhigh,
    fun hb ho => s.decodeAddr_lower_rom hb ho,
    fun _ hb ho => s.decodeAddr_mirror_of_toNat_ne (by omega) ho,
    fun hlow hhigh ho => s.decodeAddr_no_rom hlow hhigh ho,
    fun hb => ?bank7E, fun hb => ?bank7F,
    fun hb ho => s.decodeAddr_mirror_of_toNat_ne (by omega) ho,
    fun hb hlow hhigh => s.decodeAddr_gap (.inr hb) hlow hhigh,
    fun hb ho => s.decodeAddr_upper_rom hb ho⟩
  case bank7E => rw [show bank = 0x7E from BitVec.eq_of_toNat_eq hb, s.decodeAddr_bank_7E]
  case bank7F => rw [show bank = 0x7F from BitVec.eq_of_toNat_eq hb, s.decodeAddr_bank_7F]

/-! ### Reads after a write -/

/-- An address is routed to WRAM exactly when some WRAM byte is its target. -/
theorem State.isWram_iff {s : State} {addr : Addr} : s.isWram addr = true ↔ ∃ j, s.decodeAddr addr = .wram j := by
  unfold State.isWram
  cases s.decodeAddr addr with
  | wram j => exact ⟨fun _ => ⟨j, rfl⟩, fun _ => rfl⟩
  | rom b i => exact ⟨nofun, nofun⟩
  | unmapped => exact ⟨nofun, nofun⟩

/-- A write moves no address (R66). -/
@[simp] theorem State.decodeAddr_memWrite (s : State) (addr other : Addr) (v : Byte) :
    (s.memWrite addr v).decodeAddr other = s.decodeAddr other :=
  State.decodeAddr_congr (s.memWrite_rom addr v) other

/-- What an address that is not routed to WRAM reads does not depend on WRAM (R65, R67). -/
theorem State.memRead_memWrite_of_not_wram {s : State} {other : Addr} (h : ∀ k, s.decodeAddr other ≠ .wram k)
    (addr : Addr) (v : Byte) : (s.memWrite addr v).memRead other = s.memRead other := by
  rcases s.decodeAddr_cases other with ⟨k, -, hd⟩ | ⟨b, i, -, -, hd⟩ | hd
  · exact absurd hd (h k)
  · rw [State.memRead_rom hd, State.memRead_rom ((s.decodeAddr_memWrite addr other v).trans hd), State.romByte,
      State.romByte, State.memWrite_rom]
  · rw [State.memRead_unmapped hd, State.memRead_unmapped ((s.decodeAddr_memWrite addr other v).trans hd)]

/-- A read of the written WRAM byte, through any address routed to it, gives the value (R67, R68). -/
theorem State.memRead_memWrite_same {s : State} (hwf : s.wram.wf = true) {addr other : Addr} {j : Nat}
    (haddr : s.decodeAddr addr = .wram j) (hother : s.decodeAddr other = .wram j) (v : Byte) :
    (s.memWrite addr v).memRead other = v := by
  rw [State.memRead_wram ((s.decodeAddr_memWrite addr other v).trans hother), State.memWrite_wram haddr,
    Memory.read_write hwf, if_pos rfl]

/-- A read of an address with another route than the written one's gives what it gave before (R67, R68). -/
theorem State.memRead_memWrite_of_ne {s : State} (hwf : s.wram.wf = true) {addr other : Addr}
    (hne : s.decodeAddr other ≠ s.decodeAddr addr) (v : Byte) : (s.memWrite addr v).memRead other = s.memRead other := by
  by_cases hother : ∃ k, s.decodeAddr other = .wram k
  · obtain ⟨k, hk⟩ := hother
    have haddr : s.decodeAddr addr ≠ .wram k := fun h => hne (hk.trans h.symm)
    rw [State.memRead_wram hk, State.memRead_wram ((s.decodeAddr_memWrite addr other v).trans hk),
      State.read_memWrite_of_ne hwf haddr]
  · exact State.memRead_memWrite_of_not_wram (not_exists.mp hother) addr v

/-- Settles O29: the same WRAM byte, another route, or a write that is dropped. -/
theorem readAfterWrite : Obligations.ReadAfterWrite := by
  intro s addr other v hwf
  by_cases hroute : s.decodeAddr other = s.decodeAddr addr
  · by_cases hwram : ∃ j, s.decodeAddr addr = .wram j
    · rw [if_pos ⟨State.isWram_iff.mpr hwram, hroute⟩]
      obtain ⟨j, haddr⟩ := hwram
      exact State.memRead_memWrite_same hwf haddr (hroute.trans haddr) v
    · rw [if_neg (fun h => hwram (State.isWram_iff.mp h.1)), State.memWrite_of_not_wram (not_exists.mp hwram)]
  · rw [if_neg (fun h => hroute h.2), State.memRead_memWrite_of_ne hwf hroute]

/-! ### What a read can see -/

/-- The WRAM a write leaves depends on WRAM and ROM alone (R68). -/
theorem State.memWrite_wram_congr {s u : State} (hwram : s.wram = u.wram) (hrom : s.rom = u.rom) (addr : Addr) (v : Byte) :
    (s.memWrite addr v).wram = (u.memWrite addr v).wram := by
  simp only [State.memWrite, ← State.decodeAddr_congr hrom addr]
  cases s.decodeAddr addr with
  | wram j => exact congrArg (·.write j v) hwram
  | rom b i => exact hwram
  | unmapped => exact hwram

/-- Settles O30: the decoder sees the ROM, a read WRAM and ROM, and a write changes WRAM at most. -/
theorem readsSeeOnlyWramAndRom : Obligations.ReadsSeeOnlyWramAndRom := by
  intro s u hwram hrom addr v
  refine ⟨State.decodeAddr_congr hrom addr, State.memRead_congr hrom hwram addr,
    State.memWrite_wram_congr hwram hrom addr v, s.memWrite_rom addr v, ?_⟩
  rw [s.memWrite_eq addr v]
  exact ⟨rfl, rfl, rfl, rfl⟩

end Sys2Proof.Machine
end

section
/-! PROOFS of the instructions (40_dispatch.md to 44_unimplemented.md): the instruction a step runs, what each kind of
instruction does, and the step as the spec's pseudocode. -/

namespace Sys2Proof.Machine

open Sys2Proof.Laws

/-! ### The instruction a step runs -/

/-- The opcode of the instruction at PC is the byte at PC (R101). -/
@[simp] theorem State.fetchInstr_opcode (s : State) : s.fetchInstr.opcode = s.memRead (mkAddr s.pb s.pc) := by
  rw [State.fetchInstr, decodeFrom_opcode, State.instrByte_zero]

/-- With a ROM loaded, a step has the effect of the instruction at PC (R123). -/
theorem State.stepEffect_of_romLoaded {s : State} (hrom : s.romLoaded = true) : s.stepEffect = effectOf s.fetchInstr :=
  if_pos hrom

/-- The step runs the instruction that the bytes of `byteAt` decode to, when the bytes from PC on are those as far as the
opcode's length goes (R106, R123). -/
theorem step_of_instrByte {s : State} {byteAt : Nat → Byte} (hrom : s.romLoaded = true)
    (hbytes : ∀ k < instrLength (byteAt 0), byteAt k = s.instrByte k) : step s = exec (decodeFrom byteAt) s := by
  rw [step_of_romLoaded hrom, State.fetchInstr, decodeFrom_congr hbytes]

/-- Settles O10: the bytes of an encoding decode to its instruction, and no byte after them is read. -/
theorem encodedInstructionInMemoryRuns : Obligations.EncodedInstructionInMemoryRuns := by
  intro s i hrom hbytes
  have hstep : step s = exec (decodeFrom fun k => (encode i).getD k 0) s := by
    refine step_of_instrByte hrom fun k hk => ?_
    have hlen : k < (encode i).length := instrLength_opcode i ▸ hk
    rw [List.getD_eq_getElem _ _ hlen]
    exact (hbytes k hlen).symm
  rwa [decodeFrom_encode] at hstep

/-- Settles O9: three bytes hold every instruction, and the step reads no more of them than the decoder. -/
theorem stepRunsDecodedInstruction : Obligations.StepRunsDecodedInstruction := by
  intro s i rest hrom hdecode
  have hlen := (instrLength_bounds (s.memRead (mkAddr s.pb s.pc))).2
  cases (decode_eq hlen).symm.trans hdecode
  refine step_of_instrByte hrom fun k hk => ?_
  have hk3 : k < 3 := Nat.lt_of_lt_of_le hk hlen
  match k, hk3 with
  | 0, _ => exact s.instrByte_zero.symm
  | 1, _ => exact s.instrByte_one.symm
  | 2, _ => exact s.instrByte_two.symm

/-! ### CLC and SEC -/

/-- CLC's effect is the carry's bit cleared, its fetch and its cost (R141, D4). -/
theorem exec_clc (s : State) : exec .clc s = .next { s with p := s.p &&& 0xFE, pc := s.pc + 1, cyc := s.cyc + 2 } :=
  exec_eq_apply_effectOf .clc s

/-- SEC's effect is the carry's bit set, its fetch and its cost (R142, D4). -/
theorem exec_sec (s : State) : exec .sec s = .next { s with p := s.p ||| 0x01, pc := s.pc + 1, cyc := s.cyc + 2 } :=
  exec_eq_apply_effectOf .sec s

/-- Settles O2: the effect of CLC, and the step at its opcode byte. -/
theorem clcClearsCarryOnly : Obligations.ClcClearsCarryOnly :=
  fun s => ⟨exec_clc s, fun hrom hop => step_of_imp hrom hop entryOf_clc⟩

/-- Settles O3: the effect of SEC, and the step at its opcode byte. -/
theorem secSetsCarryOnly : Obligations.SecSetsCarryOnly :=
  fun s => ⟨exec_sec s, fun hrom hop => step_of_imp hrom hop entryOf_sec⟩

/-! ### The immediate loads -/

/-- With a ROM loaded and the opcode byte of an immediate load at PC, the step runs that load on the next byte of the
bank (R105, R123). -/
theorem step_of_imm8 {s : State} {op v : Byte} {mk : Byte → Instr} (hrom : s.romLoaded = true)
    (hop : s.memRead (mkAddr s.pb s.pc) = op) (hoperand : s.memRead (mkAddr s.pb (s.pc + 1)) = v)
    (hentry : entryOf op = .imm8 mk) : step s = exec (mk v) s := by
  rw [step_of_romLoaded hrom, State.fetchInstr_imm8 hop hentry, hoperand]

/-- set_nz writes N and Z from the operand and no other bit of P (R38). -/
theorem flagsAfterLoad_setNz (p v : Byte) : FlagsAfterLoad p (setNz p v) v := by
  refine ⟨setNz_getLsbD p v 7, setNz_getLsbD p v 1, fun k hz hn => ?_⟩
  rw [setNz_getLsbD, if_neg hz, if_neg hn]

/-- Settles O4: the effect of LDA #, and the step at its opcode byte. -/
theorem ldaImmediateLoadsA : Obligations.LdaImmediateLoadsA := by
  intro s v
  refine ⟨⟨_, exec_eq_apply_effectOf (.ldaImm v) s, flagsAfterLoad_setNz s.p v, ?_⟩,
    fun hrom hop hoperand => step_of_imm8 hrom hop hoperand entryOf_ldaImm⟩
  rw [← immValue_eq_ofNat]
  rfl

/-- Settles O5: the effect of LDX #, and the step at its opcode byte. -/
theorem ldxImmediateLoadsX : Obligations.LdxImmediateLoadsX := by
  intro s v
  refine ⟨⟨_, exec_eq_apply_effectOf (.ldxImm v) s, flagsAfterLoad_setNz s.p v, ?_⟩,
    fun hrom hop hoperand => step_of_imm8 hrom hop hoperand entryOf_ldxImm⟩
  rw [← immValue_eq_ofNat]
  rfl

/-- Settles O6: the effect of LDY #, and the step at its opcode byte. -/
theorem ldyImmediateLoadsY : Obligations.LdyImmediateLoadsY := by
  intro s v
  refine ⟨⟨_, exec_eq_apply_effectOf (.ldyImm v) s, flagsAfterLoad_setNz s.p v, ?_⟩,
    fun hrom hop hoperand => step_of_imm8 hrom hop hoperand entryOf_ldyImm⟩
  rw [← immValue_eq_ofNat]
  rfl

/-! ### The default handler -/

/-- An instruction whose opcode is not registered moves PC past its one byte and costs 2: of all constructors only the
seven registered ones do anything else (R170, R171, D9). -/
theorem default_instr {i : Instr} (hi : i.opcode ∉ registeredOpcodes) :
    effectOf i = { pc := (· + 1) } ∧ encode i = [i.opcode] := by
  cases i with
  | nop | clc | sec | ldaImm _ | ldxImm _ | ldyImm _ | jmpAbs _ => exact absurd (List.mem_of_elem_eq_true rfl) hi
  | _ => exact ⟨rfl, rfl⟩

/-- What a default instruction does to a state (R170, D9). -/
theorem exec_default {i : Instr} (hi : i.opcode ∉ registeredOpcodes) (s : State) :
    exec i s = .next { s with pc := s.pc + 1, cyc := s.cyc + 2 } := by
  rw [exec_eq_apply_effectOf, (default_instr hi).1]
  rfl

/-- With a ROM loaded, a step at an unregistered byte runs a default instruction (R107, R122). -/
theorem step_of_unregistered {s : State} (hrom : s.romLoaded = true)
    (hop : s.memRead (mkAddr s.pb s.pc) ∉ registeredOpcodes) :
    step s = .next { s with pc := s.pc + 1, cyc := s.cyc + 2 } := by
  rw [step_of_romLoaded hrom, exec_default (s.fetchInstr_opcode.symm ▸ hop)]

/-- Settles O8: every instruction but the seven registered ones, and the step at an unregistered byte. -/
theorem defaultHandlerChangesOnlyPcAndCyc : Obligations.DefaultHandlerChangesOnlyPcAndCyc :=
  ⟨fun _ s hi => ⟨exec_default hi s, (default_instr hi).2⟩, fun _ => step_of_unregistered⟩

/-! ### PC, CYC and P after a step -/

/-- PC after an instruction: the target of a jump, else past the instruction's bytes (R12, R106). -/
theorem effectOf_pc {i : Instr} (hi : i.opcode ≠ 0x4C) (pc : Word) :
    (effectOf i).pc pc = pc + (if i.opcode ∈ [0xA9, 0xA2, 0xA0] then 2 else 1) := by
  cases i with
  | jmpAbs _ => exact absurd rfl hi
  | _ => rfl

/-- The opcode alone gives the cost (R121). -/
theorem effectOf_cost (i : Instr) : (effectOf i).cost = if i.opcode = 0x4C then 3 else 2 := by
  cases i with
  | _ => rfl

/-- Settles O14: PC after the effect of the instruction at PC, a jump's operand being the next two bytes. -/
theorem pcAfterStep : Obligations.PcAfterStep := by
  intro s hrom
  refine ⟨_, step_eq_apply_stepEffect s, rfl, ?_⟩
  rw [Effect.apply, State.stepEffect_of_romLoaded hrom]
  by_cases hjmp : s.memRead (mkAddr s.pb s.pc) = 0x4C
  · rw [if_pos hjmp, State.fetchInstr_abs16 hjmp entryOf_jmpAbs, ← joinBytes_eq_ofNat]
    rfl
  · have hop : s.fetchInstr.opcode ≠ 0x4C := s.fetchInstr_opcode.symm ▸ hjmp
    rw [if_neg hjmp, ← s.fetchInstr_opcode, ← apply_ite (s.pc + ·)]
    exact effectOf_pc hop s.pc

/-- Settles O15: the cost of the instruction at PC, by its opcode. -/
theorem cyclesAfterStep : Obligations.CyclesAfterStep := by
  intro s hrom
  refine ⟨_, step_eq_apply_stepEffect s, ?_⟩
  rw [Effect.apply, State.stepEffect_of_romLoaded hrom, effectOf_cost, s.fetchInstr_opcode]

/-- A bit of P that a flag write changes is that flag's (R34). -/
theorem eq_flagBit_of_setFlag_changes {p : Byte} {flag : Flag} {value : Bool} {k : Nat}
    (h : (setFlag p flag value).getLsbD k ≠ p.getLsbD k) : k = flagBit flag :=
  by_contra fun hk => h ((setFlag_getLsbD p flag value k).trans (if_neg hk))

/-- A bit of P that set_nz changes is Z or N (R38). -/
theorem eq_one_or_seven_of_setNz_changes {p v : Byte} {k : Nat} (h : (setNz p v).getLsbD k ≠ p.getLsbD k) :
    k = 1 ∨ k = 7 := by
  by_contra hk
  obtain ⟨hz, hn⟩ := not_or.mp hk
  exact h ((flagsAfterLoad_setNz p v).2.2 k hz hn)

/-- Settles O16, instruction by instruction: two write the carry, three N and Z, the others no bit. -/
theorem flagsWrittenOnlyByTheirInstructions : Obligations.FlagsWrittenOnlyByTheirInstructions := by
  intro i s
  refine ⟨_, exec_eq_apply_effectOf i s, fun k hk => ?_⟩
  cases i with
  | clc => exact .inl ⟨eq_flagBit_of_setFlag_changes hk, .inl rfl⟩
  | sec => exact .inl ⟨eq_flagBit_of_setFlag_changes hk, .inr rfl⟩
  | ldaImm v => exact .inr ⟨eq_one_or_seven_of_setNz_changes hk, v, .inl rfl⟩
  | ldxImm v => exact .inr ⟨eq_one_or_seven_of_setNz_changes hk, v, .inr (.inl rfl)⟩
  | ldyImm v => exact .inr ⟨eq_one_or_seven_of_setNz_changes hk, v, .inr (.inr rfl)⟩
  | _ => exact absurd rfl hk

/-! ### The step as the spec's pseudocode -/

/-- Byte fetches one after the other: the n-th byte from PC on, and PC past it (R12). -/
theorem State.fetch8_advancePc (s : State) (n : Nat) :
    (s.advancePc n).fetch8 = (s.instrByte n, s.advancePc (n + 1)) := by
  have hpc : s.pc + BitVec.ofNat 16 n + BitVec.ofNat 16 1 = s.pc + BitVec.ofNat 16 (n + 1) := by
    rw [BitVec.add_assoc, ← BitVec.ofNat_add]
  have haddr : (s.advancePc n).fetchAddr 0 = s.fetchAddr n := State.fetchAddr_zero _
  rw [State.fetch8, haddr, State.memRead_advancePc, State.advancePc, State.advancePc_pc, hpc]
  rfl

/-- The pseudocode with a ROM loaded: the handler of the byte at PC, run past it, and its cost (R123). -/
theorem cpuStepPseudocode_of_romLoaded {s : State} (hrom : s.romLoaded = true) :
    cpuStepPseudocode s =
      ((dispatchTable (s.memRead (mkAddr s.pb s.pc))).1 (s.advancePc 1)).addCycles
        (dispatchTable (s.memRead (mkAddr s.pb s.pc))).2 := by
  rw [cpuStepPseudocode, if_pos hrom, State.fetch8, State.fetchAddr_zero]

/-- The handler LDA # after the opcode fetch (R150). -/
theorem handlerLdaImm_advancePc (s : State) :
    handlerLdaImm (s.advancePc 1) =
      { s.advancePc 2 with a := immValue (s.instrByte 1), p := setNz s.p (s.instrByte 1) } := by
  rw [handlerLdaImm, State.fetch8_advancePc]
  rfl

/-- The handler LDX # after the opcode fetch (R152). -/
theorem handlerLdxImm_advancePc (s : State) :
    handlerLdxImm (s.advancePc 1) =
      { s.advancePc 2 with x := immValue (s.instrByte 1), p := setNz s.p (s.instrByte 1) } := by
  rw [handlerLdxImm, State.fetch8_advancePc]
  rfl

/-- The handler LDY # after the opcode fetch (R154). -/
theorem handlerLdyImm_advancePc (s : State) :
    handlerLdyImm (s.advancePc 1) =
      { s.advancePc 2 with y := immValue (s.instrByte 1), p := setNz s.p (s.instrByte 1) } := by
  rw [handlerLdyImm, State.fetch8_advancePc]
  rfl

/-- The handler JMP abs after the opcode fetch (R160). -/
theorem handlerJmpAbs_advancePc (s : State) :
    handlerJmpAbs (s.advancePc 1) = { s.advancePc 3 with pc := joinBytes (s.instrByte 1) (s.instrByte 2) } := by
  simp only [handlerJmpAbs, State.fetch8_advancePc]

/-- An unregistered byte has the default handler in the dispatch table (R122). -/
theorem dispatchTable_unregistered {op : Byte} (hop : op ∉ registeredOpcodes) : dispatchTable op = (id, 2) := by
  simp only [registeredOpcodes, List.mem_cons, List.not_mem_nil, or_false, not_or] at hop
  obtain ⟨hnop, hclc, hsec, hlda, hldx, hldy, hjmp⟩ := hop
  rw [dispatchTable, if_neg hnop, if_neg hclc, if_neg hsec, if_neg hlda, if_neg hldx, if_neg hldy, if_neg hjmp]

/-- Settles O12: for each byte the dispatch table tells apart, the handler's fetches are the operands of the instruction
the step runs. -/
theorem stepEqualsSpecPseudocode : Obligations.StepEqualsSpecPseudocode := by
  intro s
  cases hrom : s.romLoaded with
  | false => rw [step_of_not_romLoaded hrom, cpuStepPseudocode, hrom, if_neg Bool.false_ne_true]
  | true =>
    rw [cpuStepPseudocode_of_romLoaded hrom]
    rcases step_cases hrom with ⟨hop, hstep⟩ | ⟨hop, hstep⟩ | ⟨hop, hstep⟩ | ⟨hop, hstep⟩ | ⟨hop, hstep⟩ | ⟨hop, hstep⟩ |
      ⟨hop, hstep⟩ | ⟨hop, -⟩
    · rw [hstep, hop]; rfl
    · rw [hstep, hop]; rfl
    · rw [hstep, hop]; rfl
    · rw [hstep, hop, show (dispatchTable 0xA9).1 = handlerLdaImm from rfl, handlerLdaImm_advancePc]; rfl
    · rw [hstep, hop, show (dispatchTable 0xA2).1 = handlerLdxImm from rfl, handlerLdxImm_advancePc]; rfl
    · rw [hstep, hop, show (dispatchTable 0xA0).1 = handlerLdyImm from rfl, handlerLdyImm_advancePc]; rfl
    · rw [hstep, hop, show (dispatchTable 0x4C).1 = handlerJmpAbs from rfl, handlerJmpAbs_advancePc]; rfl
    · rw [step_of_unregistered hrom hop, dispatchTable_unregistered hop]; rfl

/-! ### Runs of unmapped bytes -/

/-- A run of any machine goes on from the state its first step leaves. -/
theorem run_succ_of_next {M : Host.Core} {s t : M.State} (h : M.step s = .next t) (n : Nat) :
    M.run (n + 1) s = M.run n t := by
  rw [Host.Core.run, h]

/-- A run of the core goes on from the state its first step leaves. -/
theorem run_succ_of_step {s t : State} (h : step s = .next t) (n : Nat) :
    Host.Core.run Sys2Proof.core (n + 1) s = Host.Core.run Sys2Proof.core n t :=
  run_succ_of_next (M := Sys2Proof.core) h n

/-- With a ROM loaded, a step at an unmapped address runs the default handler: the byte there is 0x00 (R129). -/
theorem step_of_unmapped {s : State} (hrom : s.romLoaded = true) (h : s.decodeAddr (mkAddr s.pb s.pc) = .unmapped) :
    step s = .next { s with pc := s.pc + 1, cyc := s.cyc + 2 } :=
  step_of_unregistered hrom (by rw [State.memRead_unmapped h]; decide)

/-- Settles O18, by induction on the number of steps: the first leaves the ROM, and so every route, as it was. -/
theorem unmappedRunTakesDefaultSteps : Obligations.UnmappedRunTakesDefaultSteps := by
  intro n
  induction n with
  | zero =>
    intro s _ _
    have hpc : s.pc + BitVec.ofNat 16 0 = s.pc := BitVec.add_zero s.pc
    rw [hpc]
    rfl
  | succ n ih =>
    intro s hrom hunmapped
    have hnext : ∀ k, s.pc + 1 + BitVec.ofNat 16 k = s.pc + BitVec.ofNat 16 (k + 1) := fun k => by
      rw [Nat.add_comm k 1, BitVec.ofNat_add, BitVec.add_assoc]
      rfl
    have hcyc : s.cyc + 2 + 2 * n = s.cyc + 2 * (n + 1) := by omega
    have hhere : s.decodeAddr (mkAddr s.pb s.pc) = .unmapped := by
      simpa using hunmapped 0 (Nat.succ_pos n)
    have hrest := ih { s with pc := s.pc + 1, cyc := s.cyc + 2 } hrom fun k hk =>
      (congrArg (fun pc => s.decodeAddr (mkAddr s.pb pc)) (hnext k)).trans (hunmapped (k + 1) (Nat.succ_lt_succ hk))
    simp only [hnext, hcyc] at hrest
    exact (run_succ_of_step (step_of_unmapped hrom hhere) n).trans hrest

end Sys2Proof.Machine
end

section
/-! PROOFS about the placed program (log 4): the three bytes of a table word stand at PC after withFetchWord. -/

namespace Sys2Proof.Machine

/-! ### Routes to WRAM inside one bank -/

/-- The ROM rules route no address to WRAM (R63, R64). -/
theorem State.romTarget_ne_wram (s : State) (b i j : Nat) : s.romTarget b i ≠ .wram j := by
  rcases s.romTarget_cases b i with ⟨-, -, h⟩ | ⟨-, h⟩
  · exact h ▸ nofun
  · exact h ▸ nofun

/-- The WRAM byte an address is routed to tells its offset: each half of WRAM begins at offset 0 of a bank (R61, R62). -/
theorem State.wram_index_mod {s : State} {bank : Byte} {offset : Word} {j : Nat}
    (h : s.decodeAddr (mkAddr bank offset) = .wram j) : j % 0x10000 = offset.toNat := by
  have hoffset := offset.isLt
  simp only [State.decodeAddr, bankOf_mkAddr, offsetOf_mkAddr] at h
  split_ifs at h
  · rw [← Target.wram.inj h, Nat.mul_add_mod_self_right, Nat.mod_eq_of_lt hoffset]
  · rw [← Target.wram.inj h, Nat.mod_eq_of_lt hoffset]
  · exact absurd h (s.romTarget_ne_wram _ _ j)
  · exact absurd h (s.romTarget_ne_wram _ _ j)

/-- The addresses of the first three bytes from PC on differ in their offsets (R100). -/
theorem fetch_offset_inj {pc : Word} {k l : Nat} (hk : k < 3) (hl : l < 3)
    (h : pc + BitVec.ofNat 16 k = pc + BitVec.ofNat 16 l) : k = l := by
  have hnat := congrArg BitVec.toNat h
  simp only [BitVec.toNat_add, BitVec.toNat_ofNat] at hnat
  omega

/-- Two of the first three bytes from PC on that are both in WRAM are different bytes of it. -/
theorem State.fetchAddr_route_ne {s : State} {k l : Nat} (hk : k < 3) (hl : l < 3) (hne : k ≠ l)
    (hwram : s.isWram (s.fetchAddr l) = true) : s.decodeAddr (s.fetchAddr k) ≠ s.decodeAddr (s.fetchAddr l) := by
  intro hroute
  obtain ⟨j, hj⟩ := State.isWram_iff.mp hwram
  have hoffset := (State.wram_index_mod (hroute.trans hj)).symm.trans (State.wram_index_mod hj)
  exact hne (fetch_offset_inj hk hl (BitVec.eq_of_toNat_eq hoffset))

/-! ### Three bytes written at PC -/

/-- A byte written at the address of the k-th byte from PC on. -/
def State.writeAtPc (s : State) (k : Nat) (v : Byte) : State :=
  s.memWrite (s.fetchAddr k) v

/-- A write moves neither PC nor the bank. -/
@[simp] theorem State.fetchAddr_writeAtPc (s : State) (k l : Nat) (v : Byte) :
    (s.writeAtPc k v).fetchAddr l = s.fetchAddr l := by
  rw [State.writeAtPc, State.fetchAddr, State.memWrite_pc, State.memWrite_pb, State.fetchAddr]

/-- The bytes from PC on are routed to WRAM, and it is canonical: what a byte needs to be read back from PC. -/
structure State.WritableAtPc (s : State) : Prop where
  wf : s.wram.wf = true
  isWram : ∀ k < 3, s.isWram (s.fetchAddr k) = true

/-- A write at PC leaves the bytes at PC writable. -/
theorem State.WritableAtPc.writeAtPc {s : State} (h : s.WritableAtPc) (k : Nat) (v : Byte) :
    (s.writeAtPc k v).WritableAtPc where
  wf := State.memWrite_wf h.wf _ v
  isWram l hl := by
    rw [State.fetchAddr_writeAtPc, State.isWram, State.writeAtPc, State.decodeAddr_memWrite]
    exact h.isWram l hl

/-- A byte written at PC is the byte fetched there, and the others from PC on are as before (R84, R100). -/
theorem State.instrByte_writeAtPc {s : State} (h : s.WritableAtPc) {k l : Nat} (hk : k < 3) (hl : l < 3) (v : Byte) :
    (s.writeAtPc k v).instrByte l = if l = k then v else s.instrByte l := by
  rw [State.instrByte, State.fetchAddr_writeAtPc, State.writeAtPc, readAfterWrite s _ _ v h.wf]
  by_cases hlk : l = k
  · rw [if_pos hlk, if_pos ⟨h.isWram k hk, hlk ▸ rfl⟩]
  · rw [if_neg hlk, if_neg fun hboth => State.fetchAddr_route_ne hl hk hlk (h.isWram k hk) hboth.2]
    rfl

/-! ### The placed program -/

/-- The state with the model's one-byte ROM if none is loaded (log 4). -/
def State.withRom (s : State) : State :=
  if s.romLoaded then s else s.loadRom [0x00]

/-- The state with PC where the three bytes from it on are WRAM: PC itself, or the start of bank 0 (log 4). -/
def State.atWram (s : State) : State :=
  if s.isWram (s.fetchAddr 0) && s.isWram (s.fetchAddr 1) && s.isWram (s.fetchAddr 2) then s
  else { s with pc := 0, pb := 0 }

/-- Placing a program is three writes at PC, after the ROM and PC are seen to. -/
theorem State.placeInstr_eq (s : State) (b0 b1 b2 : Byte) :
    s.placeInstr b0 b1 b2 = ((s.withRom.atWram.writeAtPc 0 b0).writeAtPc 1 b1).writeAtPc 2 b2 := by
  simp only [State.writeAtPc, State.fetchAddr, State.memWrite_pc, State.memWrite_pb]
  rfl

@[simp] theorem State.withRom_romLoaded (s : State) : s.withRom.romLoaded = true := by
  unfold State.withRom
  split
  · assumption
  · rfl

@[simp] theorem State.withRom_wram (s : State) : s.withRom.wram = s.wram := by
  unfold State.withRom
  split
  · rfl
  · rfl

@[simp] theorem State.atWram_romLoaded (s : State) : s.atWram.romLoaded = s.romLoaded := by
  unfold State.atWram
  split
  · rfl
  · rfl

@[simp] theorem State.writeAtPc_romLoaded (s : State) (k : Nat) (v : Byte) :
    (s.writeAtPc k v).romLoaded = s.romLoaded := by
  rw [State.romLoaded, State.writeAtPc, State.memWrite_rom, State.romLoaded]

/-- The first three bytes of bank 0 are WRAM's (R62). -/
theorem State.isWram_start (s : State) {k : Nat} (hk : k < 3) :
    s.isWram (mkAddr 0 (0 + BitVec.ofNat 16 k)) = true := by
  have hoffset : (0 + BitVec.ofNat 16 k : Word).toNat < 0x2000 := by
    rw [zero_add, BitVec.toNat_ofNat]
    omega
  exact State.isWram_iff.mpr ⟨_, s.decodeAddr_mirror (by decide) hoffset⟩

/-- Where a canonical WRAM is placed into, the bytes at PC are writable. -/
theorem State.atWram_writableAtPc {s : State} (hwf : s.wram.wf = true) : s.atWram.WritableAtPc := by
  unfold State.atWram
  split
  case isTrue h =>
    obtain ⟨⟨h0, h1⟩, h2⟩ := (Bool.and_eq_true_iff.mp h).imp_left Bool.and_eq_true_iff.mp
    refine ⟨hwf, fun k hk => ?_⟩
    match k, hk with
    | 0, _ => exact h0
    | 1, _ => exact h1
    | 2, _ => exact h2
  case isFalse => exact ⟨hwf, fun k hk => State.isWram_start _ hk⟩

/-- The bytes placed are the bytes fetched (log 4). -/
theorem State.instrByte_placeInstr {s : State} (hwf : s.wram.wf = true) (b0 b1 b2 : Byte) {k : Nat} (hk : k < 3) :
    (s.placeInstr b0 b1 b2).instrByte k = [b0, b1, b2].getD k 0 := by
  have h0 : s.withRom.atWram.WritableAtPc := State.atWram_writableAtPc (s.withRom_wram.symm ▸ hwf)
  have h1 := h0.writeAtPc 0 b0
  have h2 := h1.writeAtPc 1 b1
  rw [State.placeInstr_eq, State.instrByte_writeAtPc h2 (by decide) hk, State.instrByte_writeAtPc h1 (by decide) hk,
    State.instrByte_writeAtPc h0 (by decide) hk]
  match k, hk with
  | 0, _ => rfl
  | 1, _ => rfl
  | 2, _ => rfl

/-- A table word is decoded from its three bytes, which hold every instruction (R106). -/
theorem decodeTableWord_eq (nbits w : Nat) :
    decodeTableWord nbits w = some (decodeFrom fun k => (tableBytes nbits w).getD k 0) := by
  have hdecode := decode_eq (instrLength_bounds (BitVec.ofNat 8 (w % 2 ^ nbits))).2
    (rest := [BitVec.ofNat 8 (w % 2 ^ nbits / 0x100), BitVec.ofNat 8 (w % 2 ^ nbits / 0x10000)])
  rw [decodeTableWord, tableBytes, hdecode]

/-- Settles O19: the three placed bytes are the table word's, and the step reads no others. -/
theorem placedTableWordRunsNext : Obligations.PlacedTableWordRunsNext := by
  intro s nbits w i hwf hdecode
  cases (decodeTableWord_eq nbits w).symm.trans hdecode
  have hrom : (s.withFetchWord nbits w).romLoaded = true := by
    simp only [State.withFetchWord, State.placeInstr_eq, State.writeAtPc_romLoaded, State.atWram_romLoaded,
      State.withRom_romLoaded]
  refine step_of_instrByte hrom fun k hk => ?_
  have hk3 : k < 3 := Nat.lt_of_lt_of_le hk (instrLength_bounds _).2
  exact (State.instrByte_placeInstr hwf _ _ _ hk3).symm

end Sys2Proof.Machine
end

section
/-! PROOFS about ROM loading and booting (20_memory.md, 70_reset_and_hazards.md): the banks an image becomes, its bytes
read through bank 0, and CpuReset's frame. -/

namespace Sys2Proof.Machine

/-! ### The banks of a loaded image -/

/-- The number of banks holds the whole image (R70). -/
theorem le_bankCount_mul (n : Nat) : n ≤ bankCount n * 0x8000 := by
  have hcount : bankCount n = (n + 0x7FFF) / 0x8000 := rfl
  omega

/-- A bank of a loaded image, or none past its end (R70). -/
theorem State.loadRom_getElem? (s : State) {data : List Byte} (h : data ≠ []) (b : Nat) :
    (s.loadRom data).rom[b]? = if b < bankCount (stripHeader data).length then
      some (.ofBytes (((stripHeader data).drop (b * 0x8000)).take 0x8000)) else none := by
  rw [State.loadRom_eq s h]
  split
  case isTrue hb => exact romBanks_getElem? hb _
  case isFalse hb => exact List.getElem?_eq_none (by rw [romBanks_length]; exact Nat.not_lt.mp hb)

/-- The length of a bank of a loaded image: a full bank, or what the image still has (R70). -/
theorem State.loadRom_romLen (s : State) {data : List Byte} (h : data ≠ []) (b : Nat) :
    (s.loadRom data).romLen b = min 0x8000 ((stripHeader data).length - b * 0x8000) := by
  have hcount := le_bankCount_mul (stripHeader data).length
  rw [State.romLen, s.loadRom_getElem? h]
  split_ifs with hb
  · exact (RomBank.ofBytes_spec _).1.trans (by rw [List.length_take, List.length_drop])
  · show 0 = _
    have hend : (stripHeader data).length ≤ b * 0x8000 :=
      hcount.trans (Nat.mul_le_mul_right _ (Nat.not_lt.mp hb))
    omega

/-- The byte of a bank of a loaded image: the image's, 0x00 past its end (R70). -/
theorem State.loadRom_romByte (s : State) {data : List Byte} (h : data ≠ []) (b : Nat) {i : Nat} (hi : i < 0x8000) :
    (s.loadRom data).romByte b i = (stripHeader data).getD (b * 0x8000 + i) 0 := by
  have hcount := le_bankCount_mul (stripHeader data).length
  rw [State.romByte, s.loadRom_getElem? h]
  split_ifs with hb
  · refine ((RomBank.ofBytes_spec _).2 i).trans ?_
    simp only [List.getD_eq_getElem?_getD, List.getElem?_take_of_lt hi, List.getElem?_drop]
  · have hend : (stripHeader data).length ≤ b * 0x8000 + i :=
      (hcount.trans (Nat.mul_le_mul_right _ (Nat.not_lt.mp hb))).trans (Nat.le_add_right _ i)
    exact (List.getD_eq_default _ _ hend).symm

/-- A byte of a bank exists exactly when it lies in the image (R70). -/
theorem State.loadRom_byte_exists_iff (s : State) {data : List Byte} (h : data ≠ []) (b : Nat) {i : Nat} (hi : i < 0x8000) :
    (b < (s.loadRom data).rom.length ∧ i < (s.loadRom data).romLen b) ↔ b * 0x8000 + i < (stripHeader data).length := by
  have hlen : (s.loadRom data).rom.length = ((stripHeader data).length + 0x7FFF) / 0x8000 := by
    rw [State.loadRom_eq s h]
    exact romBanks_length _ _
  rw [hlen, s.loadRom_romLen h]
  omega

/-- Settles O31: the frame of LoadRom, and the length and the bytes of each bank. -/
theorem loadRomCutsTheImageIntoBanks : Obligations.LoadRomCutsTheImageIntoBanks := by
  refine ⟨State.loadRom_nil, fun s data h => ?_⟩
  intro image t
  refine ⟨s.loadRom_frame data, ?count, fun b => ?bound, fun b i hi =>
    ⟨s.loadRom_byte_exists_iff h b hi, fun _ => s.loadRom_romByte h b hi⟩⟩
  case count => exact (congrArg (List.length ∘ State.rom) (State.loadRom_eq s h)).trans (romBanks_length _ _)
  case bound => exact (s.loadRom_romLen h b).trans_le (Nat.min_le_left _ _)

/-! ### Booting from an image -/

/-- The upper half of bank 0 reads the image's first bank, 0x00 past the image's end (R64, R67, D11). -/
theorem State.memRead_loadRom_bank_zero (s : State) {data : List Byte} (h : data ≠ []) {offset : Word}
    (hoffset : 0x8000 ≤ offset.toNat) :
    (s.loadRom data).memRead (mkAddr 0 offset) = (stripHeader data).getD (offset.toNat - 0x8000) 0 := by
  have hi : offset.toNat - 0x8000 < 0x8000 := by have := offset.isLt; omega
  have hroute := (s.loadRom data).decodeAddr_lower_rom (bank := 0) (by decide) hoffset
  have hbyte := s.loadRom_romByte h 0 hi
  have hexists := s.loadRom_byte_exists_iff h 0 hi
  rw [Nat.zero_mul, Nat.zero_add] at hbyte hexists
  rcases (s.loadRom data).romTarget_cases 0 (offset.toNat - 0x8000) with ⟨-, -, htarget⟩ | ⟨hnone, htarget⟩
  · rw [State.memRead_rom (hroute.trans htarget), hbyte]
  · rw [State.memRead_unmapped (hroute.trans htarget),
      List.getD_eq_default _ _ (Nat.not_lt.mp (mt hexists.mpr hnone))]

/-- Settles O32: the vector and the first opcode byte are read through bank 0, and CpuReset changes no memory. -/
theorem bootFromImage : Obligations.BootFromImage := by
  intro s data h image t
  refine ⟨rfl, ?vector, fun hpc => ?firstByte⟩
  case vector =>
    have hlo := s.memRead_loadRom_bank_zero h (offset := 0xFFFC) (by decide)
    have hhi := s.memRead_loadRom_bank_zero h (offset := 0xFFFD) (by decide)
    refine (s.loadRom data).cpuReset_pc_toNat.trans ?_
    rw [show (0x00FFFC : Addr) = mkAddr 0 0xFFFC from rfl, show (0x00FFFD : Addr) = mkAddr 0 0xFFFD from rfl, hlo, hhi]
    rfl
  case firstByte =>
    exact ((s.loadRom data).cpuReset_memRead _).trans (s.memRead_loadRom_bank_zero h hpc)

/-! ### What CpuReset writes -/

/-- With no ROM the vector is unmapped and reads 0x0000 (R263). -/
theorem State.cpuReset_pc_of_no_rom {s : State} (h : s.rom = []) : s.cpuReset.pc = 0x0000 := by
  have hread : ∀ offset : Word, 0x8000 ≤ offset.toNat → s.memRead (mkAddr 0 offset) = 0 := fun offset hoffset => by
    refine State.memRead_unmapped ((s.decodeAddr_lower_rom (by decide) hoffset).trans (if_neg fun hbank => ?_))
    rw [h] at hbank
    exact Nat.not_lt_zero _ hbank.1
  rw [State.cpuReset_pc, show (0x00FFFC : Addr) = mkAddr 0 0xFFFC from rfl,
    show (0x00FFFD : Addr) = mkAddr 0 0xFFFD from rfl, hread 0xFFFC (by decide), hread 0xFFFD (by decide)]
  rfl

/-- Settles O34: the fields CpuReset names, and the vector of a core with no ROM. -/
theorem cpuResetWritesOnlyFiveRegisters : Obligations.CpuResetWritesOnlyFiveRegisters :=
  fun _ => ⟨rfl, State.cpuReset_pc_of_no_rom⟩

/-- CpuReset of a construction: the reset state with the parameters CpuReset does not write (R54, R260). -/
theorem State.construct_cpuReset (cpu : CpuPowerOn) (mem : MemPowerOn) :
    (State.construct cpu mem).cpuReset =
      { State.reset with
        a := cpu.a, x := cpu.x, y := cpu.y, db := cpu.db
        wram := mem.wram, sram := mem.sram, vram := mem.vram, cgram := mem.cgram, oam := mem.oam } := by
  have hpc : (State.construct cpu mem).cpuReset.pc = 0 := State.cpuReset_pc_of_no_rom rfl
  calc (State.construct cpu mem).cpuReset
    _ = { (State.construct cpu mem).cpuReset with pc := (State.construct cpu mem).cpuReset.pc } := rfl
    _ = { (State.construct cpu mem).cpuReset with pc := 0 } := by rw [hpc]
    _ = _ := rfl

/-- No button is pressed when all are released (R49). -/
@[simp] theorem Buttons.get_released (btn : Button) : Buttons.released.get btn = false := by
  cases btn with
  | _ => rfl

/-- Settles O35: the construction's fields are its parameters, and CpuReset of it is the reset state but for them. -/
theorem resetIsConstructionThenCpuReset : Obligations.ResetIsConstructionThenCpuReset := by
  refine ⟨(State.construct_cpuReset ⟨0, 0, 0, 0, 0, 0, 0, 0, false⟩ ⟨[], [], [], [], []⟩).symm, fun cpu mem => ?_⟩
  exact ⟨⟨rfl, rfl, rfl, rfl, rfl, rfl, rfl, rfl, rfl⟩, ⟨rfl, rfl, rfl, rfl, rfl⟩,
    ⟨rfl, rfl, rfl, rfl, rfl, Memory.read_nil, Buttons.get_released⟩, State.construct_cpuReset cpu mem⟩

end Sys2Proof.Machine
end

section
/-! PROOFS about the PPU and the controller (60_exceptions.md): the pixels and bytes a PpuStep leaves, the frame edges
and the pixels of a run of PpuSteps, the buttons after a run of presses and releases. -/

namespace Sys2Proof.Machine

/-! ### The framebuffer after a PpuStep -/

/-- The bytes outside the current line's row stay (R212, R213). -/
theorem State.read_ppuStep_of_ne {s : State} (hwf : s.fb.wf = true) (f : PixelFn) {k : Nat} (hk : k / 768 ≠ s.scanline) :
    (s.ppuStep f).1.fb.read k = s.fb.read k := by
  rw [State.ppuStep_fb]
  split
  · rw [State.read_renderLine s hwf, dif_neg hk]
  · rfl

/-- A line below the visible ones leaves the framebuffer (R212). -/
theorem State.ppuStep_fb_of_invisible {s : State} (h : 224 ≤ s.scanline) (f : PixelFn) : (s.ppuStep f).1.fb = s.fb := by
  rw [State.ppuStep_fb, dif_neg (Nat.not_lt_of_le h)]

/-- The row, the column and the component of a framebuffer index (R216). -/
theorem pixelIndex_spec {x : Nat} (hx : x < 256) (y : Nat) {c : Nat} (hc : c < 3) :
    pixelIndex x y c / 768 = y ∧ pixelIndex x y c / 3 % 256 = x ∧ pixelIndex x y c % 3 = c := by
  unfold pixelIndex
  omega

/-- The current line's row holds the pixel function's components (R213). -/
theorem State.read_ppuStep_row {s : State} (hwf : s.fb.wf = true) (f : PixelFn) (x : Fin 256) {y : Fin 224}
    (hy : y = s.scanline) {c : Nat} (hc : c < 3) :
    (s.ppuStep f).1.fb.read (pixelIndex x y c) = component (f x y) c := by
  obtain ⟨hrow, hcol, hcomp⟩ := pixelIndex_spec x.isLt y hc
  have hvisible : s.scanline < 224 := hy ▸ y.isLt
  have hline : (⟨s.scanline, hvisible⟩ : Fin 224) = y := Fin.ext hy.symm
  have hcolumn : (⟨pixelIndex x y c / 3 % 256, Nat.mod_lt _ (by decide)⟩ : Fin 256) = x := Fin.ext hcol
  rw [State.ppuStep_fb, dif_pos hvisible, hline, State.read_renderLine s hwf, dif_pos hrow, hcolumn, hcomp]

/-- Each pixel after a PpuStep: rendered on the current line, as before on every other (R213). -/
theorem State.pixel_ppuStep {s : State} (hwf : s.fb.wf = true) (f : PixelFn) (x : Fin 256) (y : Fin 224) :
    (s.ppuStep f).1.pixel x y = if y = s.scanline then f x y else s.pixel x y := by
  split
  case isTrue hy =>
    rw [State.pixel, State.read_ppuStep_row hwf f x hy (by decide), State.read_ppuStep_row hwf f x hy (by decide),
      State.read_ppuStep_row hwf f x hy (by decide)]
    rfl
  case isFalse hy =>
    have hkept : ∀ c < 3, (s.ppuStep f).1.fb.read (pixelIndex x y c) = s.fb.read (pixelIndex x y c) := fun c hc =>
      State.read_ppuStep_of_ne hwf f ((pixelIndex_spec x.isLt y hc).1.trans_ne hy)
    rw [State.pixel, hkept 0 (by decide), hkept 1 (by decide), hkept 2 (by decide), State.pixel]

/-- Settles O36: the edge, the frame, the pixels and the bytes outside the line. -/
theorem ppuStepRendersOneLine : Obligations.PpuStepRendersOneLine := by
  intro f s hwf t
  exact ⟨s.ppuStep_edge f, s.ppuStep_eq f, State.pixel_ppuStep hwf f, fun k hk => State.read_ppuStep_of_ne hwf f hk,
    fun h => State.ppuStep_fb_of_invisible h f⟩

/-! ### A run of PpuSteps -/

/-- The scanline after a PpuStep is one of the frame's (R211). -/
theorem State.ppuStep_scanline_lt (f : PixelFn) (s : State) : (s.ppuStep f).1.scanline < 262 := by
  rw [State.ppuStep_scanline]
  exact Nat.mod_lt _ (by decide)

/-- A run's frame edges are those of its first step and of the rest. -/
theorem State.ppuSteps_succ_edges (f : PixelFn) (n : Nat) (s : State) :
    (State.ppuSteps f (n + 1) s).2 = (State.ppuSteps f n (s.ppuStep f).1).2 + if s.scanline = 261 then 1 else 0 := by
  rw [State.ppuSteps, State.ppuStep_edge]
  simp only [decide_eq_true_eq]

/-- Settles O38, by induction on the number of steps: the edge is counted when the scanline wraps. -/
theorem frameEdgesCounted : Obligations.FrameEdgesCounted := by
  intro f n
  induction n with
  | zero => exact fun s hs => (Nat.div_eq_of_lt hs).symm
  | succ n ih =>
    intro s hs
    rw [State.ppuSteps_succ_edges, ih _ (State.ppuStep_scanline_lt f s), State.ppuStep_scanline]
    split <;> omega

/-- A pixel that holds the pixel function's value holds it after any PpuSteps (R213). -/
theorem State.pixel_ppuSteps_of_rendered {f : PixelFn} {x : Fin 256} {y : Fin 224} (n : Nat) {s : State}
    (hwf : s.fb.wf = true) (hpixel : s.pixel x y = f x y) : (State.ppuSteps f n s).1.pixel x y = f x y := by
  induction n generalizing s with
  | zero => exact hpixel
  | succ n ih =>
    refine ih (State.ppuStep_wf hwf f) ?_
    rw [State.pixel_ppuStep hwf, hpixel, ite_self]

/-- A pixel is rendered once the scanline has come to its row, however far ahead that is (R213, R214). -/
theorem State.pixel_ppuSteps_of_reached {f : PixelFn} {x : Fin 256} {y : Fin 224} {n : Nat} {s : State}
    (hwf : s.fb.wf = true) (hs : s.scanline < 262) (hn : (y + 262 - s.scanline) % 262 < n) :
    (State.ppuSteps f n s).1.pixel x y = f x y := by
  induction n generalizing s with
  | zero => exact absurd hn (Nat.not_lt_zero _)
  | succ n ih =>
    rw [State.ppuSteps_succ_state]
    by_cases hy : y = s.scanline
    · refine State.pixel_ppuSteps_of_rendered n (State.ppuStep_wf hwf f) ?_
      rw [State.pixel_ppuStep hwf, if_pos hy]
    · refine ih (State.ppuStep_wf hwf f) (State.ppuStep_scanline_lt f s) ?_
      have hvisible := y.isLt
      rw [State.ppuStep_scanline]
      omega

/-- PpuSteps change the framebuffer and the scanline at most (R211). -/
theorem State.ppuSteps_eq (f : PixelFn) (n : Nat) (s : State) :
    (State.ppuSteps f n s).1 =
      { s with fb := (State.ppuSteps f n s).1.fb, scanline := (State.ppuSteps f n s).1.scanline } := by
  induction n generalizing s with
  | zero => rfl
  | succ n ih =>
    rw [State.ppuSteps_succ_state]
    exact (ih (s.ppuStep f).1).trans (by rw [State.ppuStep_eq])

/-- Settles O39: no row is further than 261 steps ahead, and 262 steps bring the scanline back. -/
theorem frameIsWholeAfter262Steps : Obligations.FrameIsWholeAfter262Steps := by
  intro f s hs hwf
  refine ⟨fun x y => State.pixel_ppuSteps_of_reached hwf hs (Nat.mod_lt _ (by decide)), ?frame⟩
  have hline : (State.ppuSteps f 262 s).1.scanline = s.scanline := (scanlineReturnsAfter262Steps f s hs).2
  have hframe := State.ppuSteps_eq f 262 s
  rwa [hline] at hframe

/-! ### ReadFramebuffer -/

/-- Each byte ReadFramebuffer gives is the framebuffer's byte of that index (R216). -/
theorem State.framebuffer_getElem? (s : State) {k : Nat} (hk : k < 172032) :
    s.framebuffer[k]? = some (s.fb.read k) := by
  have hindex : (List.range Config.frameBytes)[k]? = some k := List.getElem?_range hk
  rw [State.framebuffer, List.getElem?_map, hindex, Option.map_some]

/-- Settles O40: a visible pixel's three indices lie in the framebuffer. -/
theorem framebufferIsRowMajor : Obligations.FramebufferIsRowMajor := by
  intro s
  refine ⟨s.framebuffer, rfl, (List.length_map _).trans List.length_range, fun x y => ?_⟩
  have hx := x.isLt
  have hy := y.isLt
  exact ⟨s.framebuffer_getElem? (by omega), s.framebuffer_getElem? (by omega), s.framebuffer_getElem? (by omega)⟩

/-! ### The controller -/

/-- No button has a name in upper case, nor one of a function the controller does not have (R49, D25). -/
theorem Button.name_ne_unknown (btn : Button) : btn.name ≠ "A" ∧ btn.name ≠ "turbo" := by
  cases btn with
  | _ => decide

/-- Settles O42: a press by a button's own name, and by a name that is no button's. -/
theorem pressSetsTheNamedButton : Obligations.PressSetsTheNamedButton := by
  refine ⟨fun s => ⟨fun btn => ⟨?named, fun c hc => ?other, s.setButton_eq btn.name true, s.isPressed_name btn⟩,
    fun name hname => ⟨s.setButton_unknown hname true, s.isPressed_unknown hname⟩⟩, Button.name_ne_unknown⟩
  case named => rw [State.get_press_name, if_pos rfl]
  case other => rw [State.get_press_name, if_neg hc]

/-- One operation on the controller: a press or a release of a name (R231, R232). -/
def State.applyButtonOp (s : State) (op : Bool × String) : State :=
  if op.1 then s.press op.2 else s.release op.2

/-- An operation decides the button it names and no other (R231, R232). -/
theorem State.get_applyButtonOp (s : State) (op : Bool × String) (btn : Button) :
    (s.applyButtonOp op).btn.get btn = if op.2 == btn.name then op.1 else s.btn.get btn := by
  obtain ⟨pressed, name⟩ := op
  have hset : s.applyButtonOp (pressed, name) = s.setButton name pressed := by cases pressed <;> rfl
  rw [hset, State.get_setButton]
  simp only [beq_iff_eq, eq_comm (a := btn.name)]

/-- Settles O43, by induction on the operations: the last of the rest that names the button decides it, else the first
operation, if it names it. -/
theorem lastNamingOperationDecidesAButton : Obligations.LastNamingOperationDecidesAButton := by
  intro ops s btn
  induction ops generalizing s with
  | nil => rfl
  | cons op ops ih =>
    refine (ih (s.applyButtonOp op)).trans ?_
    rw [State.get_applyButtonOp, List.filter_cons]
    split
    · rw [List.getLast?_cons, Option.map_some, Option.getD_some]
      cases (ops.filter fun op => op.2 == btn.name).getLast? with
      | none => rfl
      | some last => rfl
    · rfl

/-- Settles O44: the twelve buttons in the canonical order and four zeros, by evaluation. -/
theorem serializeGivesCanonicalOrder : Obligations.SerializeGivesCanonicalOrder :=
  ⟨fun _ => rfl, by decide⟩

end Sys2Proof.Machine
end

section
/-! PROOFS of the invariants: legal states (10_state.md), the mode a CpuReset leaves (R24 to R37), and the driver's
tick (R251). -/

namespace Sys2Proof.Machine

/-! ### Legal states -/

/-- A step's effect writes no memory and no PPU state, so it keeps a legal state legal. -/
theorem Effect.apply_legal {s : State} (h : s.Legal) (e : Effect) : (e.apply s).Legal := h

/-- Each of the states an operation can leave is legal: one legal part is replaced by a legal one, or none is. -/
theorem perform_keeps_legal {op : HostOp} {s t : State} {out : HostOutput} (h : s.Legal)
    (hop : perform op s = .next (t, out)) : t.Legal := by
  obtain ⟨hwram, hsram, hvram, hcgram, hoam, hfb, hrom, hline⟩ := h
  rcases perform_cases hop with ⟨-, hstep⟩ | ⟨-, hother⟩
  · rw [step_eq_apply_stepEffect] at hstep
    cases hstep
    exact Effect.apply_legal ⟨hwram, hsram, hvram, hcgram, hoam, hfb, hrom, hline⟩ _
  · rcases hother with ⟨addr, v, rfl⟩ | ⟨data, rfl⟩ | rfl | rfl | ⟨name, v, rfl⟩ | rfl
    · rw [State.memWrite_eq]
      exact ⟨State.memWrite_legal hwram addr v, hsram, hvram, hcgram, hoam, hfb, hrom, hline⟩
    · rw [State.loadRom_frame]
      exact ⟨hwram, hsram, hvram, hcgram, hoam, hfb, State.loadRom_legal hrom data, hline⟩
    · exact ⟨hwram, hsram, hvram, hcgram, hoam, hfb, hrom, hline⟩
    · have hline' : (s.ppuStep Config.pixelFn).1.scanline < Config.scanlines := State.ppuStep_scanline_lt _ s
      rw [State.ppuStep_eq] at hline' ⊢
      exact ⟨hwram, hsram, hvram, hcgram, hoam, State.ppuStep_legal hfb _, hrom, hline'⟩
    · rw [State.setButton_eq]
      exact ⟨hwram, hsram, hvram, hcgram, hoam, hfb, hrom, hline⟩
    · exact ⟨hwram, hsram, hvram, hcgram, hoam, hfb, hrom, hline⟩

/-- Settles O50: every operation completes, and keeps a legal state legal. -/
theorem hostOperationsKeepLegalStates : Obligations.HostOperationsKeepLegalStates := by
  intro op s h
  obtain ⟨t, out, hop⟩ := perform_completes op s
  exact ⟨t, out, hop, perform_keeps_legal h hop⟩

/-- Settles O49: a step is its effect applied. -/
theorem stepKeepsLegalStates : Obligations.StepKeepsLegalStates :=
  fun s h => ⟨_, step_eq_apply_stepEffect s, Effect.apply_legal h _⟩

/-- A construction from legal memories is legal: it has no ROM, an empty framebuffer and scanline 0 (R54). -/
theorem State.construct_legal (cpu : CpuPowerOn) {mem : MemPowerOn} (h : mem.Legal) : (State.construct cpu mem).Legal := by
  obtain ⟨hwram, hsram, hvram, hcgram, hoam⟩ := h
  exact ⟨hwram, hsram, hvram, hcgram, hoam, ⟨rfl, rfl⟩, rfl, Nat.zero_lt_succ 261⟩

/-- Settles O51: the reset state by evaluation, a construction by its legal memories. -/
theorem resetAndConstructionAreLegal : Obligations.ResetAndConstructionAreLegal :=
  ⟨by decide, fun cpu _ => State.construct_legal cpu⟩

/-- Settles O52, by the induction over a run from a legal construction. -/
theorem reachableStatesAreLegal : Obligations.ReachableStatesAreLegal := by
  rintro s ⟨cpu, mem, ops, outs, hmem, hrun⟩
  exact performAll_keeps (P := State.Legal) (fun _ _ _ _ h hop => perform_keeps_legal h hop)
    (State.construct_legal cpu hmem) hrun

/-! ### The mode a CpuReset leaves -/

/-- A CpuReset leaves that mode, whatever came before (R260). -/
theorem State.cpuReset_inResetMode (s : State) : s.cpuReset.InResetMode := by
  obtain ⟨hm, hx, hi, hd, hv⟩ : getFlag 0x34 .m = true ∧ getFlag 0x34 .x = true ∧ getFlag 0x34 .i = true ∧
      getFlag 0x34 .d = false ∧ getFlag 0x34 .v = false := by decide
  exact ⟨rfl, hm, hx, hi, hd, hv, rfl, rfl⟩

/-- A step's effect writes neither E, PB and SP nor the five flags of the mode, which are bits 2 to 6 of P (R31, D4). -/
theorem State.stepEffect_apply_inResetMode {s : State} (h : s.InResetMode) : (s.stepEffect.apply s).InResetMode := by
  have hflag : ∀ flag, 2 ≤ flagBit flag → flagBit flag ≤ 6 →
      getFlag (s.stepEffect.apply s).p flag = getFlag s.p flag := fun flag h2 h6 =>
    s.stepEffect_keeps_bits_2_to_6 s.p h2 h6
  obtain ⟨he, hm, hx, hi, hd, hv, hpb, hsp⟩ := h
  exact ⟨he, (hflag .m (by decide) (by decide)).trans hm, (hflag .x (by decide) (by decide)).trans hx,
    (hflag .i (by decide) (by decide)).trans hi, (hflag .d (by decide) (by decide)).trans hd,
    (hflag .v (by decide) (by decide)).trans hv, hpb, hsp⟩

/-- Each of the states an operation can leave is in the mode: no operation but CpuStep and CpuReset writes a register. -/
theorem perform_keeps_resetMode {op : HostOp} {s t : State} {out : HostOutput} (h : s.InResetMode)
    (hop : perform op s = .next (t, out)) : t.InResetMode := by
  rcases perform_cases hop with ⟨-, hstep⟩ | ⟨-, hother⟩
  · rw [step_eq_apply_stepEffect] at hstep
    cases hstep
    exact State.stepEffect_apply_inResetMode h
  · rcases hother with ⟨addr, v, rfl⟩ | ⟨data, rfl⟩ | rfl | rfl | ⟨name, v, rfl⟩ | rfl
    · rw [State.memWrite_eq]; exact h
    · rw [State.loadRom_frame]; exact h
    · exact s.cpuReset_inResetMode
    · rw [State.ppuStep_eq]; exact h
    · rw [State.setButton_eq]; exact h
    · exact h

/-- Settles O53: CpuReset enters the mode, and the induction over a run keeps it. -/
theorem resetModeLastsForever : Obligations.ResetModeLastsForever := by
  refine ⟨State.cpuReset_inResetMode, fun ops s h => ?_⟩
  obtain ⟨t, outs, hrun⟩ := performAll_completes ops s
  exact ⟨t, outs, hrun, performAll_keeps (P := State.InResetMode)
    (fun _ _ _ _ hs hop => perform_keeps_resetMode hs hop) h hrun⟩

/-! ### The driver's tick -/

/-- A burst of CpuSteps is the CPU's own run, which writes neither the scanline nor the framebuffer; what follows the
burst goes on from the state it leaves (R251). -/
theorem performAll_burst (n : Nat) (s : State) :
    ∃ u : State, Host.Core.run Sys2Proof.core n s = .next u ∧ u.scanline = s.scanline ∧ u.fb = s.fb ∧
      ∀ {ops t outs}, performAll ops u = .next (t, outs) →
        performAll (List.replicate n .cpuStep ++ ops) s = .next (t, List.replicate n .none ++ outs) := by
  induction n generalizing s with
  | zero => exact ⟨s, rfl, rfl, rfl, fun h => h⟩
  | succ n ih =>
    obtain ⟨u, hrun, hline, hfb, hrest⟩ := ih (s.stepEffect.apply s)
    exact ⟨u, (run_succ_of_step (step_eq_apply_stepEffect s) n).trans hrun, hline, hfb,
      fun h => performAll_cons (perform_cpuStep s) (hrest h)⟩

/-- What a PpuStep writes depends on the framebuffer and the scanline alone (R211). -/
theorem State.ppuStep_eq_of_same_ppu {s u : State} (hline : u.scanline = s.scanline) (hfb : u.fb = s.fb) (f : PixelFn) :
    (u.ppuStep f).1 = { u with scanline := (s.scanline + 1) % 262, fb := (s.ppuStep f).1.fb } := by
  have hrendered : (u.ppuStep f).1.fb = (s.ppuStep f).1.fb := by
    simp only [State.ppuStep_fb, State.renderLine, hline, hfb]
  rw [u.ppuStep_eq f, hrendered, hline]
  rfl

/-- Settles O54: the burst leaves the PPU as it was, and the PpuStep after it writes the PPU alone. -/
theorem driverTickPacesThePpuAlone : Obligations.DriverTickPacesThePpuAlone := by
  intro n s
  obtain ⟨u, hrun, hline, hfb, hrest⟩ := performAll_burst n s
  refine ⟨_, u, _, hrest (performAll_cons (perform_ppuStep u) rfl), hrun,
    State.ppuStep_eq_of_same_ppu hline hfb Config.pixelFn, ?edge⟩
  rw [List.getLast?_concat, hline]

end Sys2Proof.Machine
end
